-- ==== Sys2Proof/Word.lean ====
section
/-! DEFINITION. The plain types of the link: a byte, and the 32-bit counts that wrap (the monotonic count of R104 and every
stamp taken from it, the sequence counter of R159, the call reference of R33). Every other quantity of the spec is a plain
number with a stated range. -/

namespace Sys2Proof

/-- One byte of a frame. -/
abbrev Byte := BitVec 8

/-- The monotonic count and every stamp that is a value of it: 32 bits, wrapping (R104). -/
abbrev Count := BitVec 32

end Sys2Proof
end

