-- ==== Sys2Proof/Machine/Bytes.lean ====
section
/-! DEFINITION. The link's byte level: byte order of fields (R194), the check (R182), escaping and the receiver's undoing of it
(R181), and reading a field of a body. -/

namespace Sys2Proof.Machine

/-- A number as `n` bytes, more significant byte first (R194). -/
def be : Nat → Nat → List Byte
  | 0, _ => []
  | n + 1, v => BitVec.ofNat 8 (v / 256 ^ n) :: be n v

/-- The number that bytes spell, more significant byte first (R194). -/
def ofBe (bytes : List Byte) : Nat := bytes.foldl (fun a b => a * 256 + b.toNat) 0

/-- The field of `n` bytes at offset `off` of a body. -/
def field (body : List Byte) (off n : Nat) : Nat := ofBe ((body.drop off).take n)

/-- A flag as a byte: 1 set, 0 clear (R194). -/
def flag (b : Bool) : List Byte := be 1 (if b then 1 else 0)

/-- One bit of the check's register, generator x^16 + x^12 + x^5 + 1 (R182). -/
def crcBit (r : BitVec 16) : BitVec 16 := if r.msb then (r <<< 1) ^^^ 0x1021 else r <<< 1

/-- One byte of the check, most significant bit first (R182). -/
def crcByte (r : BitVec 16) (b : Byte) : BitVec 16 :=
  crcBit (crcBit (crcBit (crcBit (crcBit (crcBit (crcBit (crcBit (r ^^^ (b.setWidth 16 <<< 8)))))))))

/-- The check over header and body (R182). -/
def crc (bytes : List Byte) : BitVec 16 := bytes.foldl crcByte 0xFFFF

/-- Escaping between the delimiters (R181): 0xA5 and 0xA6 are sent as 0xA6 and the byte XOR 0x20. -/
def escapeBytes : List Byte → List Byte
  | [] => []
  | b :: t => if b = 0xA5 ∨ b = 0xA6 then 0xA6 :: (b ^^^ 0x20) :: escapeBytes t else b :: escapeBytes t

/-- A frame's header, body and check before escaping (R182, R201). -/
def frameContent (kind : Byte) (tag : BitVec 16) (body : List Byte) : List Byte :=
  let head := be 2 body.length ++ [kind] ++ be 2 tag.toNat ++ body
  head ++ be 2 (crc head).toNat

/-- A frame as it stands on the wire (R181). -/
def frameWire (kind : Byte) (tag : BitVec 16) (body : List Byte) : List Byte :=
  0xA5 :: escapeBytes (frameContent kind tag body) ++ [0xA5]

end Sys2Proof.Machine
end

