-- ==== Sys2Proof/Config.lean ====
section
/-! DEFINITION. The capacities and limits the spec fixes (00, section 6, and the chapters named). The spec leaves no value of
the part open, so there is no free value here. -/

namespace Sys2Proof.Config

/-- Trunk groups 0 to 255 (00 section 6). -/
abbrev groups : Nat := 256
/-- Entries of the circuit table (R2). -/
abbrev circuits : Nat := 16384
/-- The greatest size of a group (table 1.1). -/
abbrev maxSize : Nat := 1024
/-- Call contexts 0 to 4,095 (R28). -/
abbrev contexts : Nat := 4096
/-- Destination places 0 to 4,095 (R49). -/
abbrev dests : Nat := 4096
/-- Route lists 0 to 1,023 (R53). -/
abbrev lists : Nat := 1024
/-- Places of the charge record queue (R157). -/
abbrev records : Nat := 1024
/-- Frames of the inbound request queue (R184). -/
abbrev inbound : Nat := 16
/-- Places of the reply FIFO (R189). -/
abbrev replies : Nat := 16
/-- Ordinary places of the notice queue (R174). -/
abbrev notices : Nat := 63
/-- The greatest body of a frame (R183). -/
abbrev maxBody : Nat := 480
/-- Where every tally and leg count holds (R8, R142, R185). -/
abbrev tallyMax : Nat := 4294967295
/-- Where an account's charge total holds, 2^40 - 1 (R141). -/
abbrev totalMax : Nat := 1099511627775
/-- Where an entry's occurrence count holds (R175). -/
abbrev occurrenceMax : Nat := 65535
/-- Deciseconds of a day (R105). -/
abbrev day : Nat := 864000
/-- The reply run after which a waiting notice goes (R190). -/
abbrev replyRunMax : Nat := 8

end Sys2Proof.Config
end

