-- ==== Sys2Proof/Machine/Enums.lean ====
section
/-! DEFINITION. The enumerations of R195, each constructor in the order of its code there. -/

namespace Sys2Proof.Machine

/-- Direction of a trunk group (table 1.1). -/
inductive Direction where
  | incoming | outgoing | both
deriving DecidableEq, Repr

/-- Hunt order of an OUTGOING group (R10). -/
inductive HuntOrder where
  | ascending | descending | rotating
deriving DecidableEq, Repr

/-- State of a defined group (table 1.1). -/
inductive GroupState where
  | inService | draining | blocked
deriving DecidableEq, Repr

/-- State of a member circuit (table 1.4). -/
inductive CircuitState where
  | idle | guard | outPending | outBusy | inBusy | blocked
deriving DecidableEq, Repr

/-- Priority of a call (00 section 3). -/
inductive Priority where
  | essential | normal | deferrable
deriving DecidableEq, Repr

/-- State of a context that holds a call; a FREE context has no entry in the context table (R28). -/
inductive CallState where
  | inOnly | pending | established | answered | halted | spent
deriving DecidableEq, Repr

/-- Halt cause of a HALTED context (table 2.1). -/
inductive HaltCause where
  | timeout | fault | farCongestion | farRefused | glare
deriving DecidableEq, Repr

/-- Cause of a FAIL (R37). -/
inductive FailCause where
  | circuitFault | farCongestion | farRefused
deriving DecidableEq, Repr

/-- Revert of an overlay slot (table 5.1). -/
inductive Revert where
  | auto | manual
deriving DecidableEq, Repr

/-- State of an overlay slot (table 5.1). -/
inductive SlotState where
  | disarmed | armed | active
deriving DecidableEq, Repr

/-- Cause of a slot's change into or out of ACTIVE (R99). -/
inductive OverlayCause where
  | trigger | arm | fire | revert | disarm
deriving DecidableEq, Repr

/-- Standing of a carrier (R145). -/
inductive Standing where
  | normal | watch | suspended
deriving DecidableEq, Repr

/-- Direction of a leg, and of the account and tariff it belongs to (R195: OUT 0, IN 1). -/
inductive LegDir where
  | outLeg | inLeg
deriving DecidableEq, Repr

/-- Day type (6.4). -/
inductive DayType where
  | work | rest
deriving DecidableEq, Repr

/-- Clock state (R105). -/
inductive ClockState where
  | unset | set
deriving DecidableEq, Repr

/-- Guard mode of the charge record queue (R160). -/
inductive GuardMode where
  | strict | lenient
deriving DecidableEq, Repr

/-- Mask mode of EVENT_CONFIG (R172). -/
inductive MaskMode where
  | merge | replace
deriving DecidableEq, Repr

/-- Route of an event kind (R170). -/
inductive Route where
  | notice | trigger | both
deriving DecidableEq, Repr

/-- The fourteen event kinds, in the order of R169's table. -/
inductive Kind where
  | startup | groupLevel | groupDrained | glare | circuitTrouble | carrierStanding | accountSaturated | recordHigh
  | recordLost | farMarkExpired | overlay | linkTrouble | restartDone | noticeOverflow
deriving DecidableEq, Repr

/-- Cause in a CIRCUIT_TROUBLE event (R13, R16). -/
inductive TroubleCause where
  | timeout | fault
deriving DecidableEq, Repr

/-- Cause in a LINK_TROUBLE event (R183). -/
inductive LinkCause where
  | badCheck | oversize | overrun
deriving DecidableEq, Repr

/-- The six skip reasons of a walk (3.3). -/
inductive Skip where
  | undefined | groupState | standing | recordFull | congestion | noIdle
deriving DecidableEq, Repr

/-- QUERY targets (R200). -/
inductive Target where
  | part | group | circuit | context | carrier | dest | slot
deriving DecidableEq, Repr

/-- Where the part stands between power and service (R192, R193): the reset input is asserted, the start-up clear runs, or
requests are taken. -/
inductive Phase where
  | inReset | clearing | running
deriving DecidableEq, Repr

end Sys2Proof.Machine
end

