-- ==== Sys2Proof/Machine/Table.lean ====
section
/-! DEFINITION. Sparse tables: a list of numbered entries with strictly rising numbers. A number with no entry is an
undefined group, a FREE context, a vacant destination place or a route list with no entries. -/

namespace Sys2Proof.Machine

/-- A sparse table in canonical form: numbers strictly rising (`tableWf`). -/
abbrev Table (α : Type) := List (Nat × α)

/-- The entry of number `n`, if there is one. -/
def tget {α : Type} : Table α → Nat → Option α
  | [], _ => none
  | (k, v) :: t, n => if k = n then some v else tget t n

/-- Make or replace the entry of number `n`. -/
def tput {α : Type} : Table α → Nat → α → Table α
  | [], n, x => [(n, x)]
  | (k, v) :: t, n, x =>
    if n < k then (n, x) :: (k, v) :: t
    else if k = n then (n, x) :: t
    else (k, v) :: tput t n x

/-- Remove the entry of number `n`. -/
def tdel {α : Type} : Table α → Nat → Table α
  | [], _ => []
  | (k, v) :: t, n => if k = n then tdel t n else (k, v) :: tdel t n

/-- Change every entry's value. -/
def tmap {α : Type} (f : α → α) : Table α → Table α
  | [] => []
  | (k, v) :: t => (k, f v) :: tmap f t

/-- The canonical form: numbers strictly rising. -/
def tableWf {α : Type} (t : Table α) : Bool := decide ((t.map Prod.fst).Pairwise (· < ·))

/-- The lowest number from `i` on, among `fuel` numbers, that has no entry. -/
def lowestFree {α : Type} (t : Table α) : Nat → Nat → Option Nat
  | 0, _ => none
  | fuel + 1, i => if (tget t i).isNone then some i else lowestFree t fuel (i + 1)

end Sys2Proof.Machine
end

