-- ==== Sys2Proof/Syntax.lean ====
section
/-! DEFINITION. The commands: one constructor of `Instr` for each row of spec/opcode_table.json. A request carries its body's
fields as they were received (R194, R196): an out-of-range value reaches the owning block, which refuses or clamps it, so a
field is a plain number of the field's width (checked by `Instr.wellFormed`). A step of the part itself names the timer or
carries the bytes it is about. -/

namespace Sys2Proof

/-- A digit field: a count byte and a fixed run of digit bytes, 16 for a destination's digits and 24 for called digits (R194). -/
structure DigitField where
  count : Nat
  run : List Nat
deriving DecidableEq, Repr

/-- The fields of GROUP_DEFINE in body order (R196). -/
structure GroupFields where
  group : Nat
  first : Nat
  size : Nat
  direction : Nat
  carrier : Nat
  inboundBand : Nat
  huntOrder : Nat
  localKey : Nat
  farKey : Nat
  reservation : Nat
  loadThreshold : Nat
  sampleInterval : Nat
  guardTime : Nat
  seizeTimeout : Nat
deriving DecidableEq, Repr

/-- The fields of OVERLAY_SET in body order (R196). -/
structure OverlayFields where
  slot : Nat
  base : Nat
  substitute : Nat
  trigger : Nat
  group : Nat
  level : Nat
  carrier : Nat
  standing : Nat
  revert : Nat
deriving DecidableEq, Repr

/-- The fields of TARIFF_SET in body order (R196): rate 4b + p is the rate of band b in period p. -/
structure TariffFields where
  carrier : Nat
  direction : Nat
  rates : Vector Nat 32
  fee : Nat
  minimum : Nat
  increment : Nat
  factors : Vector Nat 5
  cap : Nat
deriving DecidableEq, Repr

/-- The commands of spec/opcode_table.json, in its order. -/
inductive Instr where
  /-- SEIZE_IN (R23). -/
  | seizeIn (group member : Nat) (callRef : BitVec 32) (priority : Nat)
  /-- ROUTE (R34). -/
  | route (context budget : Nat) (called : DigitField)
  /-- CONTINUE (R39). -/
  | continueCall (context : Nat)
  /-- CONFIRM (R36). -/
  | confirm (context group member : Nat)
  /-- FAIL (R37). -/
  | failCall (context group member cause continueFlag : Nat)
  /-- ANSWER (R42). -/
  | answer (context : Nat)
  /-- RELEASE (R43). -/
  | release (context : Nat)
  /-- FAR_MARK (R81). -/
  | farMark (digits : DigitField) (level duration : Nat)
  /-- GROUP_DEFINE (R1). -/
  | groupDefine (fields : GroupFields)
  /-- GROUP_BLOCK (R20). -/
  | groupBlock (group : Nat)
  /-- GROUP_UNBLOCK (R22). -/
  | groupUnblock (group : Nat)
  /-- CIRCUIT_BLOCK (R18). -/
  | circuitBlock (group member : Nat)
  /-- CIRCUIT_UNBLOCK (R19). -/
  | circuitUnblock (group member : Nat)
  /-- DEST_SET (R50). -/
  | destSet (digits : DigitField) (list : Nat)
  /-- DEST_CLEAR (R51). -/
  | destClear (digits : DigitField)
  /-- LIST_SET (R53): the entries are groups and bands, and n is their number. -/
  | listSet (list : Nat) (entries : List (Nat × Nat))
  /-- OVERLAY_SET (R91). -/
  | overlaySet (fields : OverlayFields)
  /-- OVERLAY_ARM (R95). -/
  | overlayArm (slot : Nat)
  /-- OVERLAY_DISARM (R98). -/
  | overlayDisarm (slot : Nat)
  /-- OVERLAY_FIRE (R96). -/
  | overlayFire (slot : Nat)
  /-- OVERLAY_REVERT (R97). -/
  | overlayRevert (slot : Nat)
  /-- TARIFF_SET (R117). -/
  | tariffSet (fields : TariffFields)
  /-- CALENDAR_SET (R110): the boundaries are minutes and periods, and n is their number. -/
  | calendarSet (dayType start : Nat) (boundaries : List (Nat × Nat))
  /-- WEEK_SET (R111): the day types of weekdays 0 to 6. -/
  | weekSet (days : Vector Nat 7)
  /-- TIME_SET (R107). -/
  | timeSet (weekday ds restFlag : Nat)
  /-- CARRIER_LIMITS (R143). -/
  | carrierLimits (carrier watch cap : Nat)
  /-- CARRIER_BAR (R144). -/
  | carrierBar (carrier flag : Nat)
  /-- GUARD_MODE (R164). -/
  | guardMode (mode threshold : Nat)
  /-- EVENT_CONFIG (R171): the entries are kinds, priorities and routes, and n is their number. -/
  | eventConfig (mode : Nat) (mask : BitVec 16) (elevated : Nat) (entries : List (Nat × Nat × Nat))
  /-- PERIOD_CLOSE (R151); carrier 255 is ALL (R195). -/
  | periodClose (carrier : Nat)
  /-- RECORDS_FETCH (R166). -/
  | recordsFetch (count : Nat)
  /-- QUERY (R200). -/
  | query (target number member clear : Nat)
  /-- TRAFFIC_RESTART (R46). -/
  | trafficRestart
  /-- SWEEP_CONTEXT_VISIT (R47): the running sweep visits its next context. -/
  | sweepContextVisit
  /-- SWEEP_COMPLETION (R48). -/
  | sweepCompletion
  /-- GUARD_TIMER_EXPIRY (R14) of a circuit. -/
  | guardTimerExpiry (group member : Nat)
  /-- SEIZE_TIMER_EXPIRY (R16) of a circuit. -/
  | seizeTimerExpiry (group member : Nat)
  /-- SAMPLE_TIMER_EXPIRY (R74) of a group. -/
  | sampleTimerExpiry (group : Nat)
  /-- MARK_EXPIRY (R84) of a destination. -/
  | markExpiry (index : Nat)
  /-- MIDNIGHT_ROLLOVER (R106). -/
  | midnightRollover
  /-- FRAME_COMPLETE (R183): `wire` is what the receive pair carried since the previous delimiter event, and the closing
  delimiter arrives now. -/
  | frameComplete (wire : List Byte)
  /-- TAKE_FRAME (R186). -/
  | takeFrame
  /-- TRANSMITTER_CHOICE (R190). -/
  | transmitterChoice
  /-- POWER_ON_RESET (R192). -/
  | powerOnReset
  /-- RESET_INPUT_ASSERTED (R193). -/
  | resetInputAsserted
  /-- START_UP_CLEAR_END (R192). -/
  | startUpClearEnd
  /-- END_OF_DECISECOND (R104, R105). -/
  | endOfDecisecond
  /-- FRAME_SENT (R190). -/
  | frameSent
deriving DecidableEq, Repr

end Sys2Proof
end

