-- ==== Sys2Proof/Machine/State.lean ====
section
/-! DEFINITION. The state of the part, block by block (00 section 2), as plain data, and its value after power-on reset. What
the spec calls derived (busy, idle, level, queued, the free reply places) is computed in Flags.lean and not stored; an
undefined group, an unassigned circuit entry, a FREE context and a vacant destination place have no entry (log 14). -/

namespace Sys2Proof.Machine

/-! ### CTB and CGM: trunk groups and circuits (chapters 1 and 4) -/

/-- The six tallies of a group (R8). -/
structure Tallies where
  attempts : Nat
  overflows : Nat
  glareWon : Nat
  glareLost : Nat
  timeouts : Nat
  faults : Nat
deriving DecidableEq, Repr

/-- A member circuit (table 1.4). A timer holds the deciseconds that remain, and 0 when it has run out and its expiry step is
not yet taken (log 6). -/
structure Circuit where
  state : CircuitState
  blockPending : Bool
  faultMark : Bool
  context : Option Nat
  guardTimer : Option Nat
  seizeTimer : Option Nat
deriving DecidableEq, Repr

/-- A defined group's record (table 1.1), its run of the circuit table (`members`, member 0 first; the group's size is their
number), and the score and sample timer CGM keeps for it (table 4.1). -/
structure Group where
  first : Nat
  direction : Direction
  carrier : Nat
  inboundBand : Nat
  huntOrder : HuntOrder
  localKey : Nat
  farKey : Nat
  reservation : Nat
  loadThreshold : Nat
  sampleInterval : Nat
  guardTime : Nat
  seizeTimeout : Nat
  state : GroupState
  rotate : Nat
  tallies : Tallies
  members : List Circuit
  score : Nat
  sampleTimer : Option Nat
deriving DecidableEq, Repr

/-- CTB's tables (with CGM's state of each group). -/
structure Ctb where
  groups : Table Group
deriving DecidableEq, Repr

/-! ### RSE: destinations, lists, slots, contexts, sweep (chapters 2, 3, 5) -/

/-- An entry of a route list (3.2). -/
structure RouteEntry where
  group : Nat
  band : Nat
deriving DecidableEq, Repr

/-- An occupied place of the destination table (table 3.1, R80). -/
structure Dest where
  digits : List Nat
  list : Nat
  mark : Nat
  markTimer : Option Nat
  gap : Nat
deriving DecidableEq, Repr

/-- The trigger of an overlay slot with the fields its type uses (table 5.1); a field the type does not use is absent. -/
inductive Trigger where
  | manual
  | groupLevel (group level : Nat)
  | carrierStanding (carrier : Nat) (standing : Standing)
  | recordHigh
deriving DecidableEq, Repr

/-- An overlay slot (table 5.1). -/
structure Slot where
  base : Nat
  substitute : Nat
  trigger : Trigger
  revert : Revert
  state : SlotState
deriving DecidableEq, Repr

/-- The in-leg of a context (R30). -/
structure InLeg where
  group : Nat
  member : Nat
  carrier : Nat
  band : Nat
  guarded : Bool
deriving DecidableEq, Repr

/-- The out-leg of a context (R30). -/
structure OutLeg where
  group : Nat
  member : Nat
  entry : Nat
  band : Nat
  carrier : Nat
  guarded : Bool
deriving DecidableEq, Repr

/-- What ROUTE makes present and every selection uses (R31, R34): budget, attempts used, tried list, resume index. -/
structure Progress where
  budget : Nat
  used : Nat
  tried : List (Nat × Nat)
  resume : Nat
deriving DecidableEq, Repr

/-- A call context that holds a call (table 2.1). -/
structure Context where
  state : CallState
  callRef : BitVec 32
  priority : Priority
  inLeg : InLeg
  outLeg : Option OutLeg
  destination : Option Nat
  resolved : Option Nat
  progress : Option Progress
  bypass : Nat
  answerStamp : Option Count
  haltCause : Option HaltCause
deriving DecidableEq, Repr

/-- A running TRAFFIC_RESTART sweep (R46 to R48): its request's tag, the sweep instant, the next context to visit, and the
counts its reply will carry. -/
structure Sweep where
  tag : BitVec 16
  instant : Count
  next : Nat
  rated : Nat
  freed : Nat
deriving DecidableEq, Repr

/-- RSE's tables. -/
structure Rse where
  dests : Table Dest
  lists : Table (List RouteEntry)
  slots : Vector Slot 16
  contexts : Table Context
  sweep : Option Sweep
deriving DecidableEq, Repr

/-! ### CLK (chapter 6) -/

/-- A day type's tariff schedule: the start period and the boundaries, each a minute and a period (6.4). -/
structure Schedule where
  start : Nat
  boundaries : List (Nat × Nat)
deriving DecidableEq, Repr

/-- CLK's state. `midnightDue` is the model's own: the ds of day has passed 863,999 and the rollover step is not yet taken
(log 7). An override is true when it is REST. -/
structure Clk where
  count : Count
  clock : ClockState
  weekday : Nat
  ds : Nat
  today : Bool
  yesterday : Bool
  midnightDue : Bool
  work : Schedule
  rest : Schedule
  week : Vector DayType 7
deriving DecidableEq, Repr

/-! ### RTE (chapter 7) -/

/-- A tariff entry (table 7.1): rate 4b + p is r[b][p]. -/
structure Tariff where
  rates : Vector Nat 32
  fee : Nat
  minimum : Nat
  increment : Nat
  factors : Vector Nat 5
  cap : Nat
  generation : Nat
deriving DecidableEq, Repr

/-- The tariff entries of carriers 1 to 63, the carrier c at index c - 1 (R116). -/
structure Rte where
  outTariffs : Vector Tariff 63
  inTariffs : Vector Tariff 63
deriving DecidableEq, Repr

/-! ### SAC (chapters 8 and 9) -/

/-- A closing statement (R153). -/
structure Statement where
  total : Nat
  saturated : Bool
  billed : Nat
  answered : Nat
  unanswered : Nat
  lost : Nat
  openedAt : Nat
  closedAt : Nat
deriving DecidableEq, Repr

/-- An account (table 8.1). -/
structure Account where
  total : Nat
  saturated : Bool
  billed : Nat
  answered : Nat
  unanswered : Nat
  lost : Nat
  locked : Bool
  openedAt : Nat
  statement : Option Statement
deriving DecidableEq, Repr

/-- A carrier's limits, standing and two accounts (tables 8.1 and 8.2). -/
structure Carrier where
  watch : Nat
  cap : Nat
  barred : Bool
  standing : Standing
  outAccount : Account
  inAccount : Account
deriving DecidableEq, Repr

/-- A charge record (R158). -/
structure ChargeRecord where
  sequence : BitVec 32
  callRef : BitVec 32
  carrier : Nat
  direction : LegDir
  group : Nat
  member : Nat
  band : Nat
  answerAt : Option (Nat × Nat)
  duration : Nat
  billed : Nat
  periods : List (Nat × Nat)
  level : Nat
  factor : Nat
  fee : Nat
  charge : Nat
  generation : Nat
  period : Nat
  clockUnset : Bool
  clamped : Bool
  capped : Bool
  restartCut : Bool
deriving DecidableEq, Repr

/-- SAC's state: carriers 1 to 63, the carrier c at index c - 1; the settlement period number; the charge record queue, oldest
first, with its guarded count, guard mode, threshold, latch and sequence counter (9.1). -/
structure Sac where
  carriers : Vector Carrier 63
  period : Nat
  records : List ChargeRecord
  guarded : Nat
  mode : GuardMode
  threshold : Nat
  latch : Bool
  sequence : BitVec 32
deriving DecidableEq, Repr

/-! ### ENU (chapter 10) -/

/-- An event: its kind with its subject and detail (R169). -/
inductive Event where
  | startup (count : Count)
  | groupLevel (group level : Nat)
  | groupDrained (group : Nat)
  | glare (group member : Nat)
  | circuitTrouble (group member : Nat) (cause : TroubleCause)
  | carrierStanding (carrier : Nat) (standing : Standing)
  | accountSaturated (carrier : Nat) (direction : LegDir)
  | recordHigh (raised : Bool)
  | recordLost (sequence : BitVec 32) (carrier : Nat) (direction : LegDir)
  | farMarkExpired (index level : Nat)
  | overlay (slot : Nat) (state : SlotState) (cause : OverlayCause)
  | linkTrouble (cause : LinkCause)
  | restartDone (rated freed : Nat)
  | noticeOverflow (dropped : Kind)
deriving DecidableEq, Repr

/-- An entry of the notice queue (10.4): the latest occurrence's event, the occurrence count and the stamp. -/
structure Notice where
  event : Event
  count : Nat
  stamp : Count
deriving DecidableEq, Repr

/-- The configuration of one kind (R170). -/
structure KindConfig where
  enable : Bool
  priority : Nat
  route : Route
deriving DecidableEq, Repr

/-- ENU's state. The notice queue is ONE list, oldest entry first, so an entry's age is its place; the entry of kind
NOTICE_OVERFLOW is the one in the reserved place (log 14). -/
structure Enu where
  kinds : Vector KindConfig 14
  elevated : Option Kind
  notices : List Notice
deriving DecidableEq, Repr

/-! ### Replies (12.3) -/

/-- The status codes 5 to 20 of R198, which carry no field. -/
inductive Deny where
  | noContext | wrongState | stale | halted | glareRejected | circuitBusy | circuitBlocked | groupBlocked | wrongDirection
  | groupBusy | overlap | tableFull | tariffLocked | slotActive | recordFull | restarting
deriving DecidableEq, Repr

/-- The six reason counts of an EXHAUSTED summary (R66). -/
structure Skips where
  undefined : Nat
  groupState : Nat
  standing : Nat
  recordFull : Nat
  congestion : Nat
  noIdle : Nat
deriving DecidableEq, Repr

/-- How a selection ends (R35, R66), with EXHAUSTED reason BUDGET of R39 as `overBudget`. -/
inductive Selection where
  | granted (group member entry : Nat)
  | exhausted (skips : Skips)
  | overBudget
  | noRoute
  | farCongested
deriving DecidableEq, Repr

/-- What became of a leg at a RELEASE (R43, R199). -/
inductive LegResult where
  | rated (queued : Bool) (charge : Nat) (sequence : BitVec 32)
  | unanswered
deriving DecidableEq, Repr

/-- A RELEASE reply's entry for a chargeable leg. -/
structure LegReply where
  direction : LegDir
  carrier : Nat
  result : LegResult
deriving DecidableEq, Repr

/-- The fields of an ACCEPTED reply (R199). -/
inductive Accepted where
  | plain
  | seized (context : Nat) (yielded : Option (Nat × Selection))
  | failed (cause : HaltCause) (remaining : Nat)
  | released (legs : List LegReply)
  | marked (index before : Nat)
  | dest (index : Nat)
  | slot (before after : SlotState)
  | tariff (generation minimum : Nat) (factors : Vector Nat 5)
  | time (clock : ClockState) (weekday ds : Nat)
  | standing (before after : Standing)
  | guardMode (mode : GuardMode) (threshold : Nat) (latch : Bool)
  | events (enabled : BitVec 16) (elevated : Option Kind)
  | closed (outStatement inStatement : Option Statement) (period : Nat)
  | closedAll (accounts locked period : Nat)
  | records (records : List ChargeRecord) (fill : Nat)
  | restarted (rated freed : Nat)
  | contents (bytes : List Byte)
deriving DecidableEq, Repr

/-- A reply's status with the fields that follow it (R198). `selection cause o` is the reply to ROUTE, CONTINUE and, with its
halt cause, to FAIL with the continue flag. -/
inductive Answer where
  | accepted (fields : Accepted)
  | selection (cause : Option HaltCause) (outcome : Selection)
  | denied (status : Deny)
  | badField (field entry position : Nat)
  | badLength (received : Nat)
  | unknownKind (code : Byte)
deriving DecidableEq, Repr

/-! ### LNK (chapter 11) -/

/-- The receiver between two delimiters (R181): whether a first delimiter has come since reset, the bytes stored so far, whether
the last byte was 0xA6, and whether the frame is marked bad. -/
structure Receiver where
  synced : Bool
  collected : List Byte
  escape : Bool
  bad : Bool
deriving DecidableEq, Repr

/-- A frame in the inbound request queue with its arrival count (R184). -/
structure InFrame where
  kind : Byte
  tag : BitVec 16
  body : List Byte
  arrival : Count
deriving DecidableEq, Repr

/-- The request LNK has handed on and that is not yet answered (R186, R188). -/
structure Handed where
  tag : BitVec 16
  arrival : Count
  request : Instr
deriving DecidableEq, Repr

/-- A reply in the reply FIFO (R189). -/
structure Reply where
  kind : Byte
  tag : BitVec 16
  answer : Answer
deriving DecidableEq, Repr

/-- A frame being sent (R181, R201). -/
structure Frame where
  kind : Byte
  tag : BitVec 16
  body : List Byte
deriving DecidableEq, Repr

/-- LNK's state. -/
structure Lnk where
  phase : Phase
  rx : Receiver
  inbound : List InFrame
  handed : Option Handed
  replies : List Reply
  sending : Option Frame
  replyRun : Nat
  badCheck : Nat
  malformed : Nat
  overruns : Nat
deriving DecidableEq, Repr

/-! ### The whole part -/

/-- The machine: the blocks of the part, and the queue of commands waiting to be taken, first in, first out. -/
structure State where
  lnk : Lnk
  ctb : Ctb
  rse : Rse
  clk : Clk
  rte : Rte
  sac : Sac
  enu : Enu
  pending : List Instr
deriving DecidableEq, Repr

/-- Why the machine stops with a fault: never. The spec answers every request and discards every bad frame (R32, R133, R183),
so no step of the part stops it and this type has no constructor. -/
inductive Fault where
deriving DecidableEq, Repr

/-- Why a command has no meaning. -/
inductive Refusal where
  /-- Raised by an arm of `exec` for a command not modelled yet (safe: nothing is claimed of it). No arm raises it now. -/
  | notModelled (mnemonic : String)
deriving DecidableEq, Repr

/-! ### Values after power-on (R26, R28, R49, R53, R88, R90, R115, R116, R156, R168, R170, R179, R192) -/

/-- All six tallies 0 (R3, R8). -/
def Tallies.zero : Tallies := ⟨0, 0, 0, 0, 0, 0⟩

/-- A slot after power-on (table 5.1). -/
def Slot.powerOn : Slot := ⟨0, 0, .manual, .manual, .disarmed⟩

/-- A schedule after power-on (table 6.4). -/
def Schedule.powerOn : Schedule := ⟨0, []⟩

/-- CLK after power-on (R115). -/
def Clk.powerOn : Clk :=
  { count := 0, clock := .unset, weekday := 0, ds := 0, today := false, yesterday := false, midnightDue := false,
    work := Schedule.powerOn, rest := Schedule.powerOn, week := Vector.replicate 7 .work }

/-- A tariff entry after power-on (table 7.1). -/
def Tariff.powerOn : Tariff :=
  { rates := Vector.replicate 32 0, fee := 0, minimum := 0, increment := 1, factors := Vector.replicate 5 100, cap := 0,
    generation := 0 }

/-- An account after power-on (table 8.1). -/
def Account.powerOn : Account := ⟨0, false, 0, 0, 0, 0, false, 0, none⟩

/-- A carrier after power-on (table 8.2). -/
def Carrier.powerOn : Carrier := ⟨0, 0, false, .normal, Account.powerOn, Account.powerOn⟩

/-- SAC after power-on (R156, R168). -/
def Sac.powerOn : Sac :=
  { carriers := Vector.replicate 63 Carrier.powerOn, period := 0, records := [], guarded := 0, mode := .lenient,
    threshold := 896, latch := false, sequence := 0 }

/-- A kind's configuration after power-on (R170): only STARTUP (kind 0) and NOTICE_OVERFLOW (kind 13) are enabled. -/
def Enu.powerOn : Enu :=
  let off : KindConfig := ⟨false, 0, .notice⟩
  let on : KindConfig := ⟨true, 0, .notice⟩
  { kinds := #v[on, off, off, off, off, off, off, off, off, off, off, off, off, on], elevated := none, notices := [] }

/-- LNK after power-on reset (R181, R184, R185, R189, R190), in the phase given. -/
def Lnk.powerOn (phase : Phase) : Lnk :=
  { phase, rx := ⟨false, [], false, false⟩, inbound := [], handed := none, replies := [], sending := none, replyRun := 0,
    badCheck := 0, malformed := 0, overruns := 0 }

/-- The part right after power-on reset, with the start-up clear running (R192; log 5). -/
def State.reset : State :=
  { lnk := Lnk.powerOn .clearing
    ctb := ⟨[]⟩
    rse := ⟨[], [], Vector.replicate 16 Slot.powerOn, [], none⟩
    clk := Clk.powerOn
    rte := ⟨Vector.replicate 63 Tariff.powerOn, Vector.replicate 63 Tariff.powerOn⟩
    sac := Sac.powerOn
    enu := Enu.powerOn
    pending := [] }

end Sys2Proof.Machine
end

