-- ==== Sys2Proof/Machine/Codes.lean ====
section
/-! DEFINITION. The codes of R195 (each enumeration's value by its position), the status codes of R198, and the kind codes of
R196. -/

namespace Sys2Proof.Machine

/-- The value at a code's position in R195's list; none beyond the last. -/
def decodeDirection (n : Nat) : Option Direction := ([.incoming, .outgoing, .both] : List Direction)[n]?
/-- R195. -/
def decodeHuntOrder (n : Nat) : Option HuntOrder := ([.ascending, .descending, .rotating] : List HuntOrder)[n]?
/-- R195. -/
def decodePriority (n : Nat) : Option Priority := ([.essential, .normal, .deferrable] : List Priority)[n]?
/-- R195. -/
def decodeFailCause (n : Nat) : Option FailCause := ([.circuitFault, .farCongestion, .farRefused] : List FailCause)[n]?
/-- R195. -/
def decodeRevert (n : Nat) : Option Revert := ([.auto, .manual] : List Revert)[n]?
/-- R195. -/
def decodeStanding (n : Nat) : Option Standing := ([.normal, .watch, .suspended] : List Standing)[n]?
/-- R195. -/
def decodeLegDir (n : Nat) : Option LegDir := ([.outLeg, .inLeg] : List LegDir)[n]?
/-- R195. -/
def decodeDayType (n : Nat) : Option DayType := ([.work, .rest] : List DayType)[n]?
/-- R195. -/
def decodeGuardMode (n : Nat) : Option GuardMode := ([.strict, .lenient] : List GuardMode)[n]?
/-- R195. -/
def decodeMaskMode (n : Nat) : Option MaskMode := ([.merge, .replace] : List MaskMode)[n]?
/-- R195. -/
def decodeRoute (n : Nat) : Option Route := ([.notice, .trigger, .both] : List Route)[n]?
/-- R195. -/
def decodeTarget (n : Nat) : Option Target := ([.part, .group, .circuit, .context, .carrier, .dest, .slot] : List Target)[n]?
/-- A set/clear flag is 1 or 0 (R194). -/
def decodeFlag (n : Nat) : Option Bool := ([false, true] : List Bool)[n]?

/-- The fourteen kinds in code order (R169, R195). -/
def allKinds : List Kind :=
  [.startup, .groupLevel, .groupDrained, .glare, .circuitTrouble, .carrierStanding, .accountSaturated, .recordHigh,
   .recordLost, .farMarkExpired, .overlay, .linkTrouble, .restartDone, .noticeOverflow]

/-- R195. -/
def decodeKind (n : Nat) : Option Kind := allKinds[n]?

/-- A kind's code, 0 to 13 (R195). -/
def kindCode : Kind → Fin 14
  | .startup => 0
  | .groupLevel => 1
  | .groupDrained => 2
  | .glare => 3
  | .circuitTrouble => 4
  | .carrierStanding => 5
  | .accountSaturated => 6
  | .recordHigh => 7
  | .recordLost => 8
  | .farMarkExpired => 9
  | .overlay => 10
  | .linkTrouble => 11
  | .restartDone => 12
  | .noticeOverflow => 13

/-- R195. -/
def directionCode : Direction → Nat
  | .incoming => 0
  | .outgoing => 1
  | .both => 2
/-- R195. -/
def huntOrderCode : HuntOrder → Nat
  | .ascending => 0
  | .descending => 1
  | .rotating => 2
/-- R195. -/
def groupStateCode : GroupState → Nat
  | .inService => 0
  | .draining => 1
  | .blocked => 2
/-- R195. -/
def circuitStateCode : CircuitState → Nat
  | .idle => 0
  | .guard => 1
  | .outPending => 2
  | .outBusy => 3
  | .inBusy => 4
  | .blocked => 5
/-- R195. -/
def priorityCode : Priority → Nat
  | .essential => 0
  | .normal => 1
  | .deferrable => 2
/-- R195; FREE is 0. -/
def callStateCode : CallState → Nat
  | .inOnly => 1
  | .pending => 2
  | .established => 3
  | .answered => 4
  | .halted => 5
  | .spent => 6
/-- R195. -/
def haltCauseCode : HaltCause → Nat
  | .timeout => 0
  | .fault => 1
  | .farCongestion => 2
  | .farRefused => 3
  | .glare => 4
/-- R195. -/
def triggerCode : Trigger → Nat
  | .manual => 0
  | .groupLevel _ _ => 1
  | .carrierStanding _ _ => 2
  | .recordHigh => 3
/-- R195. -/
def revertCode : Revert → Nat
  | .auto => 0
  | .manual => 1
/-- R195. -/
def slotStateCode : SlotState → Nat
  | .disarmed => 0
  | .armed => 1
  | .active => 2
/-- R195. -/
def overlayCauseCode : OverlayCause → Nat
  | .trigger => 0
  | .arm => 1
  | .fire => 2
  | .revert => 3
  | .disarm => 4
/-- R195. The code is also the order NORMAL, WATCH, SUSPENDED of R92. -/
def standingCode : Standing → Nat
  | .normal => 0
  | .watch => 1
  | .suspended => 2
/-- R195. -/
def legDirCode : LegDir → Nat
  | .outLeg => 0
  | .inLeg => 1
/-- R195. -/
def dayTypeCode : DayType → Nat
  | .work => 0
  | .rest => 1
/-- R195. -/
def clockCode : ClockState → Nat
  | .unset => 0
  | .set => 1
/-- R195. -/
def guardModeCode : GuardMode → Nat
  | .strict => 0
  | .lenient => 1
/-- R195. -/
def routeCode : Route → Nat
  | .notice => 0
  | .trigger => 1
  | .both => 2
/-- R195. -/
def troubleCode : TroubleCause → Nat
  | .timeout => 0
  | .fault => 1
/-- R195. -/
def linkCauseCode : LinkCause → Nat
  | .badCheck => 0
  | .oversize => 1
  | .overrun => 2

/-- Status codes 5 to 20 (R198). -/
def denyCode : Deny → Nat
  | .noContext => 5
  | .wrongState => 6
  | .stale => 7
  | .halted => 8
  | .glareRejected => 9
  | .circuitBusy => 10
  | .circuitBlocked => 11
  | .groupBlocked => 12
  | .wrongDirection => 13
  | .groupBusy => 14
  | .overlap => 15
  | .tableFull => 16
  | .tariffLocked => 17
  | .slotActive => 18
  | .recordFull => 19
  | .restarting => 20

/-- Status code of a selection's outcome (R198). -/
def selectionCode : Selection → Nat
  | .granted _ _ _ => 1
  | .exhausted _ => 2
  | .overBudget => 2
  | .noRoute => 3
  | .farCongested => 4

/-- The kind code of a request (R196); none for a step that is no request. -/
def requestCode : Instr → Option Byte
  | .seizeIn _ _ _ _ => some 0x01
  | .route _ _ _ => some 0x02
  | .continueCall _ => some 0x03
  | .confirm _ _ _ => some 0x04
  | .failCall _ _ _ _ _ => some 0x05
  | .answer _ => some 0x06
  | .release _ => some 0x07
  | .farMark _ _ _ => some 0x08
  | .groupDefine _ => some 0x10
  | .groupBlock _ => some 0x11
  | .groupUnblock _ => some 0x12
  | .circuitBlock _ _ => some 0x13
  | .circuitUnblock _ _ => some 0x14
  | .destSet _ _ => some 0x18
  | .destClear _ => some 0x19
  | .listSet _ _ => some 0x1A
  | .overlaySet _ => some 0x20
  | .overlayArm _ => some 0x21
  | .overlayDisarm _ => some 0x22
  | .overlayFire _ => some 0x23
  | .overlayRevert _ => some 0x24
  | .tariffSet _ => some 0x28
  | .calendarSet _ _ _ => some 0x29
  | .weekSet _ => some 0x2A
  | .timeSet _ _ _ => some 0x2B
  | .carrierLimits _ _ _ => some 0x30
  | .carrierBar _ _ => some 0x31
  | .guardMode _ _ => some 0x32
  | .eventConfig _ _ _ _ => some 0x38
  | .periodClose _ => some 0x40
  | .recordsFetch _ => some 0x41
  | .query _ _ _ _ => some 0x48
  | .trafficRestart => some 0x49
  | .sweepContextVisit => none
  | .sweepCompletion => none
  | .guardTimerExpiry _ _ => none
  | .seizeTimerExpiry _ _ => none
  | .sampleTimerExpiry _ => none
  | .markExpiry _ => none
  | .midnightRollover => none
  | .frameComplete _ => none
  | .takeFrame => none
  | .transmitterChoice => none
  | .powerOnReset => none
  | .resetInputAsserted => none
  | .startUpClearEnd => none
  | .endOfDecisecond => none
  | .frameSent => none

/-- The kind code of the reply to a received kind code (R187, R189, R196). -/
def replyCode (received : Byte) : Byte := if received.toNat < 0x80 then received + 0x80 else 0xFF

end Sys2Proof.Machine
end

