-- ==== Sys2Proof/Decode.lean ====
section
/-! DEFINITION. Reading a request from a frame's kind code and body (R187, R194, R196), the host's writing of one, and the
reading of a table word: the table gives no row bits, so no word spells a command. -/

namespace Sys2Proof

/-- The command a word spells by the table's bits: the table gives none. -/
def decodeTableWord (_nbits _w : Nat) : Option Instr := none

namespace Machine

/-- The body length R196 gives a request kind, reckoned for a counted body from the count as received; none for a kind code that
is not a request's. A body too short to hold its count byte is shorter than the length given (R187, R196). -/
def requestLength (kind : Nat) (body : List Byte) : Option Nat :=
  match kind with
  | 0x01 => some 9
  | 0x02 => some 28
  | 0x03 => some 2
  | 0x04 => some 6
  | 0x05 => some 8
  | 0x06 => some 2
  | 0x07 => some 2
  | 0x08 => some 20
  | 0x10 => some 23
  | 0x11 => some 2
  | 0x12 => some 2
  | 0x13 => some 4
  | 0x14 => some 4
  | 0x18 => some 19
  | 0x19 => some 17
  | 0x1A => some (3 + 3 * field body 2 1)
  | 0x20 => some 12
  | 0x21 => some 1
  | 0x22 => some 1
  | 0x23 => some 1
  | 0x24 => some 1
  | 0x28 => some 85
  | 0x29 => some (3 + 3 * field body 2 1)
  | 0x2A => some 7
  | 0x2B => some 5
  | 0x30 => some 17
  | 0x31 => some 2
  | 0x32 => some 3
  | 0x38 => some (5 + 3 * field body 4 1)
  | 0x40 => some 1
  | 0x41 => some 1
  | 0x48 => some 6
  | 0x49 => some 0
  | _ => none

/-- The digit field of a body at an offset, with a run of `len` bytes (R194). -/
def readDigitField (body : List Byte) (off len : Nat) : DigitField :=
  ⟨field body off 1, ((body.drop (off + 1)).take len).map BitVec.toNat⟩

/-- Repeated entries of a 2-byte and a 1-byte field (LIST_SET, CALENDAR_SET). -/
def readPairs : List Byte → List (Nat × Nat)
  | a :: b :: c :: t => (ofBe [a, b], c.toNat) :: readPairs t
  | _ => []

/-- Repeated entries of three 1-byte fields (EVENT_CONFIG). -/
def readTriples : List Byte → List (Nat × Nat × Nat)
  | a :: b :: c :: t => (a.toNat, b.toNat, c.toNat) :: readTriples t
  | _ => []

/-- The fields of a GROUP_DEFINE body (R196). -/
def readGroupFields (b : List Byte) : GroupFields :=
  { group := field b 0 2, first := field b 2 2, size := field b 4 2, direction := field b 6 1, carrier := field b 7 1,
    inboundBand := field b 8 1, huntOrder := field b 9 1, localKey := field b 10 2, farKey := field b 12 2,
    reservation := field b 14 2, loadThreshold := field b 16 2, sampleInterval := field b 18 2, guardTime := field b 20 1,
    seizeTimeout := field b 21 2 }

/-- The fields of an OVERLAY_SET body (R196). -/
def readOverlayFields (b : List Byte) : OverlayFields :=
  { slot := field b 0 1, base := field b 1 2, substitute := field b 3 2, trigger := field b 5 1, group := field b 6 2,
    level := field b 8 1, carrier := field b 9 1, standing := field b 10 1, revert := field b 11 1 }

/-- The fields of a TARIFF_SET body (R196). -/
def readTariffFields (b : List Byte) : TariffFields :=
  { carrier := field b 0 1, direction := field b 1 1, rates := Vector.ofFn fun i : Fin 32 => field b (2 + 2 * i.val) 2,
    fee := field b 66 2, minimum := field b 68 2, increment := field b 70 1,
    factors := Vector.ofFn fun i : Fin 5 => field b (71 + 2 * i.val) 2, cap := field b 81 4 }

/-- The request of a kind code with its body's fields in the order of R196; none for a kind code that is not a request's. -/
def readRequest (kind : Nat) (b : List Byte) : Option Instr :=
  match kind with
  | 0x01 => some (.seizeIn (field b 0 2) (field b 2 2) (BitVec.ofNat 32 (field b 4 4)) (field b 8 1))
  | 0x02 => some (.route (field b 0 2) (field b 2 1) (readDigitField b 3 24))
  | 0x03 => some (.continueCall (field b 0 2))
  | 0x04 => some (.confirm (field b 0 2) (field b 2 2) (field b 4 2))
  | 0x05 => some (.failCall (field b 0 2) (field b 2 2) (field b 4 2) (field b 6 1) (field b 7 1))
  | 0x06 => some (.answer (field b 0 2))
  | 0x07 => some (.release (field b 0 2))
  | 0x08 => some (.farMark (readDigitField b 0 16) (field b 17 1) (field b 18 2))
  | 0x10 => some (.groupDefine (readGroupFields b))
  | 0x11 => some (.groupBlock (field b 0 2))
  | 0x12 => some (.groupUnblock (field b 0 2))
  | 0x13 => some (.circuitBlock (field b 0 2) (field b 2 2))
  | 0x14 => some (.circuitUnblock (field b 0 2) (field b 2 2))
  | 0x18 => some (.destSet (readDigitField b 0 16) (field b 17 2))
  | 0x19 => some (.destClear (readDigitField b 0 16))
  | 0x1A => some (.listSet (field b 0 2) (readPairs (b.drop 3)))
  | 0x20 => some (.overlaySet (readOverlayFields b))
  | 0x21 => some (.overlayArm (field b 0 1))
  | 0x22 => some (.overlayDisarm (field b 0 1))
  | 0x23 => some (.overlayFire (field b 0 1))
  | 0x24 => some (.overlayRevert (field b 0 1))
  | 0x28 => some (.tariffSet (readTariffFields b))
  | 0x29 => some (.calendarSet (field b 0 1) (field b 1 1) (readPairs (b.drop 3)))
  | 0x2A => some (.weekSet (Vector.ofFn fun i : Fin 7 => field b i.val 1))
  | 0x2B => some (.timeSet (field b 0 1) (field b 1 3) (field b 4 1))
  | 0x30 => some (.carrierLimits (field b 0 1) (field b 1 8) (field b 9 8))
  | 0x31 => some (.carrierBar (field b 0 1) (field b 1 1))
  | 0x32 => some (.guardMode (field b 0 1) (field b 1 2))
  | 0x38 => some (.eventConfig (field b 0 1) (BitVec.ofNat 16 (field b 1 2)) (field b 3 1) (readTriples (b.drop 5)))
  | 0x40 => some (.periodClose (field b 0 1))
  | 0x41 => some (.recordsFetch (field b 0 1))
  | 0x48 => some (.query (field b 0 1) (field b 1 2) (field b 3 2) (field b 5 1))
  | 0x49 => some .trafficRestart
  | _ => none

/-- LNK's judgement of a frame it takes (R187). -/
inductive Judgement where
  | unknownKind
  | wrongLength
  | request (i : Instr)
deriving DecidableEq, Repr

/-- Kind first, then length, then the request (R187). -/
def judge (kind : Byte) (body : List Byte) : Judgement :=
  match requestLength kind.toNat body, readRequest kind.toNat body with
  | some n, some i => if body.length = n then .request i else .wrongLength
  | none, _ => .unknownKind
  | some _, none => .unknownKind

/-! ### The host's side: writing a request's body (R194, R196) -/

/-- A digit field as the host sends it: its count and its run. -/
def digitFieldBytes (d : DigitField) : List Byte := be 1 d.count ++ d.run.flatMap (be 1)

/-- The body of a request, its fields in the order of R196; a step of the part has none. -/
def requestBody : Instr → List Byte
  | .seizeIn g m c p => be 2 g ++ be 2 m ++ be 4 c.toNat ++ be 1 p
  | .route n b d => be 2 n ++ be 1 b ++ digitFieldBytes d
  | .continueCall n => be 2 n
  | .confirm n g m => be 2 n ++ be 2 g ++ be 2 m
  | .failCall n g m c f => be 2 n ++ be 2 g ++ be 2 m ++ be 1 c ++ be 1 f
  | .answer n => be 2 n
  | .release n => be 2 n
  | .farMark d l t => digitFieldBytes d ++ be 1 l ++ be 2 t
  | .groupDefine f =>
      be 2 f.group ++ be 2 f.first ++ be 2 f.size ++ be 1 f.direction ++ be 1 f.carrier ++ be 1 f.inboundBand ++
      be 1 f.huntOrder ++ be 2 f.localKey ++ be 2 f.farKey ++ be 2 f.reservation ++ be 2 f.loadThreshold ++
      be 2 f.sampleInterval ++ be 1 f.guardTime ++ be 2 f.seizeTimeout
  | .groupBlock g => be 2 g
  | .groupUnblock g => be 2 g
  | .circuitBlock g m => be 2 g ++ be 2 m
  | .circuitUnblock g m => be 2 g ++ be 2 m
  | .destSet d l => digitFieldBytes d ++ be 2 l
  | .destClear d => digitFieldBytes d
  | .listSet l es => be 2 l ++ be 1 es.length ++ es.flatMap fun e => be 2 e.1 ++ be 1 e.2
  | .overlaySet f =>
      be 1 f.slot ++ be 2 f.base ++ be 2 f.substitute ++ be 1 f.trigger ++ be 2 f.group ++ be 1 f.level ++ be 1 f.carrier ++
      be 1 f.standing ++ be 1 f.revert
  | .overlayArm n => be 1 n
  | .overlayDisarm n => be 1 n
  | .overlayFire n => be 1 n
  | .overlayRevert n => be 1 n
  | .tariffSet f =>
      be 1 f.carrier ++ be 1 f.direction ++ f.rates.toList.flatMap (be 2) ++ be 2 f.fee ++ be 2 f.minimum ++ be 1 f.increment ++
      f.factors.toList.flatMap (be 2) ++ be 4 f.cap
  | .calendarSet t p bs => be 1 t ++ be 1 p ++ be 1 bs.length ++ bs.flatMap fun b => be 2 b.1 ++ be 1 b.2
  | .weekSet ds => ds.toList.flatMap (be 1)
  | .timeSet w d f => be 1 w ++ be 3 d ++ be 1 f
  | .carrierLimits c w k => be 1 c ++ be 8 w ++ be 8 k
  | .carrierBar c f => be 1 c ++ be 1 f
  | .guardMode m t => be 1 m ++ be 2 t
  | .eventConfig m k e es =>
      be 1 m ++ be 2 k.toNat ++ be 1 e ++ be 1 es.length ++ es.flatMap fun x => be 1 x.1 ++ be 1 x.2.1 ++ be 1 x.2.2
  | .periodClose c => be 1 c
  | .recordsFetch n => be 1 n
  | .query t n m c => be 1 t ++ be 2 n ++ be 2 m ++ be 1 c
  | .trafficRestart => []
  | .sweepContextVisit => []
  | .sweepCompletion => []
  | .guardTimerExpiry _ _ => []
  | .seizeTimerExpiry _ _ => []
  | .sampleTimerExpiry _ => []
  | .markExpiry _ => []
  | .midnightRollover => []
  | .frameComplete _ => []
  | .takeFrame => []
  | .transmitterChoice => []
  | .powerOnReset => []
  | .resetInputAsserted => []
  | .startUpClearEnd => []
  | .endOfDecisecond => []
  | .frameSent => []

end Machine

end Sys2Proof
end

