-- ==== Sys2Proof/Machine/Flags.lean ====
section
/-! DEFINITION. What the spec derives from the state: busy and idle (R7), the congestion level (R72), record room (R157), the
standing function (R145), the latch test (R165), the free reply places (R186), and the kind and subject of an event (R169). -/

namespace Sys2Proof.Machine

/-- A tally or leg count counts up by one and holds at 4,294,967,295 (R8, R142, R185). -/
def tallyUp (n : Nat) : Nat := min (n + 1) Config.tallyMax

/-- A circuit is busy in OUT_PENDING, OUT_BUSY or IN_BUSY (1.4). -/
def CircuitState.isBusy : CircuitState → Bool
  | .outPending => true
  | .outBusy => true
  | .inBusy => true
  | .idle => false
  | .guard => false
  | .blocked => false

/-- The number of members (table 1.1). -/
def Group.size (g : Group) : Nat := g.members.length

/-- The busy count (R7). -/
def Group.busy (g : Group) : Nat := g.members.countP (fun c => c.state.isBusy)

/-- The idle count (R7). -/
def Group.idle (g : Group) : Nat := g.members.countP (fun c => c.state == .idle)

/-- The level a score gives: 0 CLEAR to 4 SEVERE (R72). -/
def levelOf (score : Nat) : Nat :=
  if score = 0 then 0 else if score ≤ 3 then 1 else if score ≤ 7 then 2 else if score ≤ 11 then 3 else 4

/-- The congestion level of a group (R72). -/
def Group.level (g : Group) : Nat := levelOf g.score

/-- The index of a carrier 1 to 63 in the carrier and tariff tables; none for carrier 0, whose legs are not chargeable. -/
def carrierIndex (carrier : Nat) : Option (Fin 63) :=
  if h : 1 ≤ carrier ∧ carrier ≤ 63 then some ⟨carrier - 1, by omega⟩ else none

/-- A leg is chargeable when its carrier is 1 to 63 (9.3). -/
def chargeable (carrier : Nat) : Bool := (carrierIndex carrier).isSome

/-- The carrier number at an index of the carrier table. -/
def carrierAt (i : Fin 63) : Nat := i.val + 1

/-- Record room exists (R157). -/
def Sac.hasRoom (s : Sac) : Bool := decide (s.records.length + s.guarded < Config.records)

/-- The standing a carrier's flag, OUT total, W and C give (R145). -/
def standingOf (barred : Bool) (total watch cap : Nat) : Standing :=
  if barred ∨ (0 < cap ∧ cap ≤ total) then .suspended
  else if 0 < watch ∧ watch ≤ total then .watch
  else .normal

/-- The latch after a test against fill and threshold, by R165's table. -/
def latchTest (latch : Bool) (fill threshold : Nat) : Bool :=
  if latch then !decide (fill ≤ threshold - 64) else decide (threshold ≤ fill)

/-- Whether a sweep runs (R46). -/
def State.sweeping (s : State) : Bool := s.rse.sweep.isSome

/-- Reply places that are reserved: one for the request handed on, one for the running sweep's (R186, R188). -/
def State.reservedPlaces (s : State) : Nat :=
  (if s.lnk.handed.isSome then 1 else 0) + (if s.sweeping then 1 else 0)

/-- Reply places that hold no reply and are not reserved (R186). -/
def State.freePlaces (s : State) : Nat := Config.replies - (s.lnk.replies.length + s.reservedPlaces)

/-- The kind of an event (R169). -/
def Event.kind : Event → Kind
  | .startup _ => .startup
  | .groupLevel _ _ => .groupLevel
  | .groupDrained _ => .groupDrained
  | .glare _ _ => .glare
  | .circuitTrouble _ _ _ => .circuitTrouble
  | .carrierStanding _ _ => .carrierStanding
  | .accountSaturated _ _ => .accountSaturated
  | .recordHigh _ => .recordHigh
  | .recordLost _ _ _ => .recordLost
  | .farMarkExpired _ _ => .farMarkExpired
  | .overlay _ _ _ => .overlay
  | .linkTrouble _ => .linkTrouble
  | .restartDone _ _ => .restartDone
  | .noticeOverflow _ => .noticeOverflow

/-- The subject of an event, absent for kinds that have none (R169). -/
def Event.subject : Event → Option Nat
  | .startup _ => none
  | .groupLevel g _ => some g
  | .groupDrained g => some g
  | .glare g _ => some g
  | .circuitTrouble g _ _ => some g
  | .carrierStanding c _ => some c
  | .accountSaturated c _ => some c
  | .recordHigh _ => none
  | .recordLost _ _ _ => none
  | .farMarkExpired i _ => some i
  | .overlay n _ _ => some n
  | .linkTrouble _ => none
  | .restartDone _ _ => none
  | .noticeOverflow _ => none

/-- The kinds that may be routed as triggers (R169). -/
def Kind.triggerCapable : Kind → Bool
  | .groupLevel => true
  | .carrierStanding => true
  | .recordHigh => true
  | .startup => false
  | .groupDrained => false
  | .glare => false
  | .circuitTrouble => false
  | .accountSaturated => false
  | .recordLost => false
  | .farMarkExpired => false
  | .overlay => false
  | .linkTrouble => false
  | .restartDone => false
  | .noticeOverflow => false

/-- A kind's configuration (R170). -/
def Enu.config (e : Enu) (k : Kind) : KindConfig := e.kinds[kindCode k]

/-- The kind's notices are made: enabled, and routed NOTICE or BOTH (R173). -/
def Enu.notices? (e : Enu) (k : Kind) : Bool := (e.config k).enable && (e.config k).route != .trigger

/-- The kind's events are handed to the slots: trigger-capable, and routed TRIGGER or BOTH (R93, R173). -/
def Enu.triggers? (e : Enu) (k : Kind) : Bool := k.triggerCapable && (e.config k).route != .notice

/-- Number of entries in the ordinary places (R174). -/
def ordinaryCount (q : List Notice) : Nat := q.countP (fun n => n.event.kind != .noticeOverflow)

/-- The entry in the reserved place, if it holds NOTICE_OVERFLOW (R174). -/
def reservedEntry (q : List Notice) : Option Notice := q.find? (fun n => n.event.kind == .noticeOverflow)

/-- Number of FREE contexts (R28). -/
def Rse.freeContexts (r : Rse) : Nat := Config.contexts - r.contexts.length

end Sys2Proof.Machine
end

