-- ==== Sys2Proof/Machine/Operands.lean ====
section
/-! DEFINITION. The operand forms: digit fields (R194), clamps (00 section 4), and the BAD_FIELD reply naming a field (R197).
Field indices count every quantity of the kind's field list in R196 (log 9). -/

namespace Sys2Proof.Machine

/-- BAD_FIELD naming a field outside the repeated entries (R197). -/
def badField (index : Nat) : Answer := .badField index 0xFF 0

/-- The first check that fails decides the reply (R1, R32). -/
def firstBad : List (Bool × Answer) → Option Answer
  | [] => none
  | (bad, a) :: t => if bad then some a else firstBad t

/-- A value outside its range is replaced by the nearest in range (00 section 4). -/
def clamp (low high n : Nat) : Nat := max low (min n high)

/-- The digits of a digit field whose run has `len` bytes: those counted are read, and the rest disregarded; none for a count of
0, a count above the run, or a counted digit above 9 (R194). -/
def readDigits (len : Nat) (d : DigitField) : Option (List Nat) :=
  if d.count = 0 ∨ len < d.count ∨ ((d.run.take d.count).any fun x => decide (9 < x)) then none
  else some (d.run.take d.count)

/-- The fields of GROUP_DEFINE that R1 checks, in its order: group number, first index, size, direction, carrier, inbound band,
hunt order, equal keys. -/
def badGroupFields (f : GroupFields) : Option Answer :=
  firstBad [
    (decide (255 < f.group), badField 0),
    (decide (16383 < f.first), badField 1),
    (decide (Config.maxSize < f.size), badField 2),
    ((decodeDirection f.direction).isNone, badField 3),
    (decide (63 < f.carrier), badField 4),
    (decide (7 < f.inboundBand), badField 5),
    ((decodeHuntOrder f.huntOrder).isNone, badField 6),
    (decide (decodeDirection f.direction = some .both ∧ f.localKey = f.farKey), badField 8)]

/-- The entries of a LIST_SET: the first whose group is above 255 or whose band is above 7 (R53), reported by R197. -/
def badRouteEntry : Nat → List (Nat × Nat) → Option Answer
  | _, [] => none
  | i, (g, b) :: t =>
    if 255 < g then some (.badField 2 i 0)
    else if 7 < b then some (.badField 2 i 1)
    else badRouteEntry (i + 1) t

/-- The boundaries of a CALENDAR_SET after one at minute `before`: the first whose minute is 0, above 1,439 or not greater than
the preceding one's, or whose period is above 3 (R110). -/
def badBoundary : Nat → Nat → List (Nat × Nat) → Option Answer
  | _, _, [] => none
  | i, before, (m, p) :: t =>
    if m = 0 ∨ 1439 < m ∨ m ≤ before then some (.badField 3 i 0)
    else if 3 < p then some (.badField 3 i 1)
    else badBoundary (i + 1) m t

/-- The entries of an EVENT_CONFIG after those naming the kinds `seen`, in R171's order of checks. -/
def badKindEntry : Nat → List Nat → List (Nat × Nat × Nat) → Option Answer
  | _, _, [] => none
  | i, seen, (k, p, r) :: t =>
    match decodeKind k, decodeRoute r with
    | none, _ => some (.badField 4 i 0)
    | some kind, route =>
      if 7 < p then some (.badField 4 i 1)
      else match route with
        | none => some (.badField 4 i 2)
        | some route =>
          if route ≠ .notice ∧ kind.triggerCapable = false then some (.badField 4 i 2)
          else if k ∈ seen then some (.badField 4 i 0)
          else badKindEntry (i + 1) (k :: seen) t

/-- The first of a WEEK_SET's seven entries that is no day type (R111). -/
def badDay (days : List Nat) : Option Answer :=
  (days.findIdx? fun d => (decodeDayType d).isNone).map badField

end Sys2Proof.Machine
end

