-- ==== Sys2Proof/Machine/Ops.lean ====
section
/-! DEFINITION. The shared operations over the part's state: reading and writing the tables, raising an event (R173 to R176,
R92 to R94), the score and draining (R20, R21, R76), releasing circuits (R12, R13), guarded places (R161), the latch (R165),
the standing (R146), and taking and answering a request (R46, R186 to R189). -/

namespace Sys2Proof.Machine

/-! ### Tables -/

/-- A defined group's record; none for a group above 255 or undefined (R17, R59). -/
def State.group? (s : State) (g : Nat) : Option Group := if g < Config.groups then tget s.ctb.groups g else none

/-- A member circuit of a defined group; none beyond its size. -/
def State.circuit? (s : State) (g m : Nat) : Option Circuit := (s.group? g).bind (fun r => r.members[m]?)

/-- A context that holds a call; none for a FREE one. -/
def State.context? (s : State) (n : Nat) : Option Context := tget s.rse.contexts n

/-- An occupied place of the destination table; none for a vacant one. -/
def State.dest? (s : State) (i : Nat) : Option Dest := tget s.rse.dests i

/-- A route list's entries; a list never set holds none (R53). -/
def State.list (s : State) (l : Nat) : List RouteEntry := (tget s.rse.lists l).getD []

/-- Write a group's record. -/
def State.setGroup (g : Nat) (r : Group) (s : State) : State := { s with ctb := ⟨tput s.ctb.groups g r⟩ }

/-- Change a defined group's record; an undefined group stays so. -/
def State.changeGroup (g : Nat) (f : Group → Group) (s : State) : State :=
  match s.group? g with
  | some r => s.setGroup g (f r)
  | none => s

/-- Put a circuit's new state in its place. -/
def Group.setCircuit (m : Nat) (c : Circuit) (r : Group) : Group := { r with members := r.members.set m c }

/-- Put a circuit's new state in its group. -/
def State.setCircuit (g m : Nat) (c : Circuit) (s : State) : State := s.changeGroup g (Group.setCircuit m c)

/-- Write a context. -/
def State.setContext (n : Nat) (c : Context) (s : State) : State :=
  { s with rse := { s.rse with contexts := tput s.rse.contexts n c } }

/-- Change a context that holds a call. -/
def State.changeContext (n : Nat) (f : Context → Context) (s : State) : State :=
  match s.context? n with
  | some c => s.setContext n (f c)
  | none => s

/-- A context returns to FREE with all its fields absent (R28). -/
def State.freeContext (n : Nat) (s : State) : State :=
  { s with rse := { s.rse with contexts := tdel s.rse.contexts n } }

/-- Write a place of the destination table. -/
def State.setDest (i : Nat) (d : Dest) (s : State) : State :=
  { s with rse := { s.rse with dests := tput s.rse.dests i d } }

/-- Write an overlay slot. -/
def State.setSlot (i : Fin 16) (x : Slot) (s : State) : State :=
  { s with rse := { s.rse with slots := s.rse.slots.set i.val x i.isLt } }

/-- A carrier's account of a direction (8.1). -/
def Carrier.account (c : Carrier) : LegDir → Account
  | .outLeg => c.outAccount
  | .inLeg => c.inAccount

/-- Replace a carrier's account of a direction. -/
def Carrier.setAccount (d : LegDir) (a : Account) (c : Carrier) : Carrier :=
  match d with
  | .outLeg => { c with outAccount := a }
  | .inLeg => { c with inAccount := a }

/-- Write a carrier's entry. -/
def State.setCarrier (i : Fin 63) (c : Carrier) (s : State) : State :=
  { s with sac := { s.sac with carriers := s.sac.carriers.set i.val c i.isLt } }

/-- Change a carrier's entry. -/
def State.changeCarrier (i : Fin 63) (f : Carrier → Carrier) (s : State) : State := s.setCarrier i (f s.sac.carriers[i])

/-- A carrier's tariff entry of a direction (R116). -/
def Rte.tariff (t : Rte) (d : LegDir) (i : Fin 63) : Tariff :=
  match d with
  | .outLeg => t.outTariffs[i]
  | .inLeg => t.inTariffs[i]

/-- Replace a carrier's tariff entry of a direction (R118). -/
def State.setTariff (d : LegDir) (i : Fin 63) (x : Tariff) (s : State) : State :=
  match d with
  | .outLeg => { s with rte := { s.rte with outTariffs := s.rte.outTariffs.set i.val x i.isLt } }
  | .inLeg => { s with rte := { s.rte with inTariffs := s.rte.inTariffs.set i.val x i.isLt } }

/-! ### Raising an event -/

/-- Two events that coalesce: one kind, one subject (R174). -/
def Event.samePair (a b : Event) : Bool := a.kind == b.kind && a.subject == b.subject

/-- Coalesce an event into the entry of its pair: latest detail and stamp, count +1 saturating, place and age kept (R175). -/
def coalesce (now : Count) (e : Event) (q : List Notice) : List Notice :=
  q.map fun n => if n.event.samePair e then ⟨e, min (n.count + 1) Config.occurrenceMax, now⟩ else n

/-- Enter an event into its pair's entry, or as a new entry younger than every other (R175, R176). -/
def coalesceOrAppend (now : Count) (e : Event) (q : List Notice) : List Notice :=
  if q.any (fun n => n.event.samePair e) then coalesce now e q else q ++ [⟨e, 1, now⟩]

/-- Enter an event into the notice queue: coalesce, or take a free ordinary place, or be dropped, the drop entering
NOTICE_OVERFLOW into the reserved place (R175, R176). -/
def enterNotice (now : Count) (e : Event) (q : List Notice) : List Notice :=
  if q.any (fun n => n.event.samePair e) || decide (ordinaryCount q < Config.notices) then coalesceOrAppend now e q
  else coalesceOrAppend now (.noticeOverflow e.kind) q

/-- Step 1 of R173: an enabled kind routed NOTICE or BOTH makes a notice. During the start-up clear no event does (R179). -/
def State.note (e : Event) (s : State) : State :=
  if s.lnk.phase ≠ .clearing ∧ s.enu.notices? e.kind = true then
    { s with enu := { s.enu with notices := enterNotice s.clk.count e s.enu.notices } }
  else s

/-- Whether a trigger watches an event's kind and subject, and if so whether its condition holds for the event's detail (R92). -/
def Trigger.holds? : Trigger → Event → Option Bool
  | .groupLevel g k, .groupLevel g' l => if g = g' then some (decide (k ≤ l)) else none
  | .carrierStanding c st, .carrierStanding c' st' =>
      if c = c' then some (decide (standingCode st ≤ standingCode st')) else none
  | .recordHigh, .recordHigh raised => some raised
  | _, _ => none

/-- A slot's change into or out of ACTIVE, with its OVERLAY event (R99). OVERLAY events are never handed to the slots (R93). -/
def State.changeSlot (i : Fin 16) (new : SlotState) (cause : OverlayCause) (s : State) : State :=
  (s.setSlot i { s.rse.slots[i] with state := new }).note (.overlay i.val new cause)

/-- Evaluate one slot against a trigger event (R94). -/
def State.evalSlot (e : Event) (s : State) (i : Fin 16) : State :=
  let slot := s.rse.slots[i]
  match slot.trigger.holds? e, slot.state, slot.revert with
  | some true, .armed, _ => s.changeSlot i .active .trigger
  | some false, .active, .auto => s.changeSlot i .armed .trigger
  | _, _, _ => s

/-- Step 2 of R173: a trigger-capable kind routed TRIGGER or BOTH is handed to the slots, in ascending order (R93, R94). -/
def State.handToSlots (e : Event) (s : State) : State :=
  if s.enu.triggers? e.kind = true then (List.finRange 16).foldl (fun s i => s.evalSlot e i) s else s

/-- Raise an event: ENU acts on it at once, notice first, then trigger (R169, R173). -/
def State.raise (e : Event) (s : State) : State := (s.note e).handToSlots e

/-! ### Scores, draining and circuit release -/

/-- Set a group's score, raising GROUP_LEVEL when the level changes (R72, R76). -/
def State.setScore (g score : Nat) (s : State) : State :=
  match s.group? g with
  | none => s
  | some r =>
    let s' := s.setGroup g { r with score }
    if levelOf score = r.level then s' else s'.raise (.groupLevel g (levelOf score))

/-- Entry into BLOCKED from service: score 0 and sample timer stopped, GROUP_LEVEL if the level changes, then GROUP_DRAINED
(R21). -/
def State.enterBlocked (g : Nat) (s : State) : State :=
  ((s.changeGroup g fun r => { r with state := .blocked, sampleTimer := none }).setScore g 0).raise (.groupDrained g)

/-- The test that follows every decrement of busy in a DRAINING group (R20). -/
def State.drainTest (g : Nat) (s : State) : State :=
  match s.group? g with
  | some r => if r.state = .draining ∧ r.busy = 0 then s.enterBlocked g else s
  | none => s

/-- An IDLE circuit with nothing set and no timer (R3). -/
def Circuit.fresh : Circuit := ⟨.idle, false, false, none, none, none⟩

/-- A circuit BLOCKED with the fault mark given (R12, R13, R18). -/
def Circuit.blockedWith (fault : Bool) : Circuit := ⟨.blocked, false, fault, none, none, none⟩

/-- Where an ordinary release takes a busy circuit: BLOCKED, GUARD or IDLE (R12). -/
def Circuit.released (guardTime : Nat) (c : Circuit) : Circuit :=
  if c.blockPending then Circuit.blockedWith false
  else if 0 < guardTime then ⟨.guard, false, false, none, some guardTime, none⟩
  else Circuit.fresh

/-- An ordinary release of a busy circuit, with the drain test (R12, R20). -/
def State.ordinaryRelease (g m : Nat) (s : State) : State :=
  match s.group? g, s.circuit? g m with
  | some r, some c =>
    if c.state.isBusy then (s.setGroup g (r.setCircuit m (c.released r.guardTime))).drainTest g else s
  | _, _ => s

/-- A tally of a group counts up (R8). -/
def State.countTally (g : Nat) (f : Tallies → Tallies) (s : State) : State :=
  s.changeGroup g fun r => { r with tallies := f r.tallies }

/-- A fault release of a busy circuit: BLOCKED with its fault mark, the faults tally, CIRCUIT_TROUBLE, then the drain test
(R13). -/
def State.faultRelease (g m : Nat) (s : State) : State :=
  match s.circuit? g m with
  | some c =>
    if c.state.isBusy then
      ((((s.setCircuit g m (Circuit.blockedWith true)).countTally g fun t => { t with faults := tallyUp t.faults }).raise
        (.circuitTrouble g m .fault)).drainTest g)
    else s
  | none => s

/-! ### SAC -/

/-- A guarded leg that ends without a record gives back its place (R161). -/
def State.settleGuard (guarded : Bool) (s : State) : State :=
  if guarded then { s with sac := { s.sac with guarded := s.sac.guarded - 1 } } else s

/-- Whether a leg on this carrier is guarded if admitted now: STRICT mode and chargeable (R160). -/
def State.guards (s : State) (carrier : Nat) : Bool := s.sac.mode == .strict && chargeable carrier

/-- An admitted leg takes its place when guarded (R160). -/
def State.admitLeg (guarded : Bool) (s : State) : State :=
  if guarded then { s with sac := { s.sac with guarded := s.sac.guarded + 1 } } else s

/-- Test the latch after a change of the fill or a GUARD_MODE, raising RECORD_HIGH when it moves (R165). -/
def State.testLatch (s : State) : State :=
  let latch := latchTest s.sac.latch s.sac.records.length s.sac.threshold
  if latch = s.sac.latch then s else { s with sac := { s.sac with latch } }.raise (.recordHigh latch)

/-- The standing R145 gives a carrier. -/
def Carrier.derived (c : Carrier) : Standing := standingOf c.barred c.outAccount.total c.watch c.cap

/-- Re-evaluate a carrier's standing, raising CARRIER_STANDING when it changes (R146). -/
def State.reevaluate (i : Fin 63) (s : State) : State :=
  let c := s.sac.carriers[i]
  if c.derived = c.standing then s
  else (s.setCarrier i { c with standing := c.derived }).raise (.carrierStanding (carrierAt i) c.derived)

/-! ### Taking and answering a request -/

/-- The request that a request command carries out: the one LNK handed on; or, with nothing handed on and no frame waiting, this
command as a frame received and taken in the same step, when the part takes requests and a reply place is free (R186, R188;
log 1, log 2). -/
def State.takes? (s : State) (c : Instr) : Option Handed :=
  match s.lnk.handed with
  | some h => if h.request = c then some h else none
  | none => if s.lnk.phase = .running ∧ s.lnk.inbound = [] ∧ 0 < s.freePlaces then some ⟨0, s.clk.count, c⟩ else none

/-- LNK has handed a request on, and its reply place is reserved (R186). -/
def State.withHanded (h : Handed) (s : State) : State := { s with lnk := { s.lnk with handed := some h } }

/-- Place a request's reply at the end of the reply FIFO, in its reserved place (R188, R189). -/
def State.place (received : Byte) (tag : BitVec 16) (a : Answer) (s : State) : State :=
  { s with lnk := { s.lnk with handed := none, replies := s.lnk.replies ++ [⟨replyCode received, tag, a⟩] } }

/-- Carry out a request with the block's act and place its reply. While a sweep runs every request but QUERY and RECORDS_FETCH
is refused with RESTARTING (R46). A request that is not taken leaves the state as it is (log 2). -/
def State.serve (s : State) (c : Instr) (code : Byte) (inSweep : Bool) (act : Count → State → Answer × State) : State :=
  match s.takes? c with
  | none => s
  | some h =>
    if s.sweeping && !inSweep then (s.withHanded h).place code h.tag (.denied .restarting)
    else
      let (a, s') := act h.arrival (s.withHanded h)
      s'.place code h.tag a

end Sys2Proof.Machine
end

