-- ==== Sys2Proof/Machine/Accounts.lean ====
section
/-! DEFINITION. The settlement requests (chapters 8 and 9): CARRIER_LIMITS, CARRIER_BAR, GUARD_MODE, PERIOD_CLOSE,
RECORDS_FETCH. -/

namespace Sys2Proof.Machine

/-- Change a carrier's limits or bar, re-evaluate its standing, and answer with the standing before and after (R143, R144). -/
def changeLimits (i : Fin 63) (f : Carrier → Carrier) (s : State) : Answer × State :=
  let s' := (s.changeCarrier i f).reevaluate i
  (.accepted (.standing s.sac.carriers[i].standing s'.sac.carriers[i].standing), s')

/-- CARRIER_LIMITS at its owning block (R143). -/
def carrierLimits (carrier watch cap : Nat) (s : State) : Answer × State :=
  match carrierIndex carrier with
  | none => (badField 0, s)
  | some i =>
    match firstBad [(decide (Config.totalMax < watch), badField 1), (decide (Config.totalMax < cap), badField 2),
        (decide (watch ≠ 0 ∧ cap ≠ 0 ∧ cap < watch), badField 1)] with
    | some a => (a, s)
    | none => changeLimits i (fun c => { c with watch, cap }) s

/-- CARRIER_LIMITS (R143). -/
def execCarrierLimits (carrier watch cap : Nat) (s : State) : Host.Outcome State Fault Refusal :=
  .next (s.serve (.carrierLimits carrier watch cap) 0x30 false fun _ => carrierLimits carrier watch cap)

/-- CARRIER_BAR at its owning block (R144). -/
def carrierBar (carrier flag : Nat) (s : State) : Answer × State :=
  match carrierIndex carrier, decodeFlag flag with
  | none, _ => (badField 0, s)
  | some _, none => (badField 1, s)
  | some i, some barred => changeLimits i (fun c => { c with barred }) s

/-- CARRIER_BAR (R144). -/
def execCarrierBar (carrier flag : Nat) (s : State) : Host.Outcome State Fault Refusal :=
  .next (s.serve (.carrierBar carrier flag) 0x31 false fun _ => carrierBar carrier flag)

/-- GUARD_MODE at its owning block: mode and threshold replaced, then the latch tested (R164). -/
def guardMode (mode threshold : Nat) (s : State) : Answer × State :=
  match decodeGuardMode mode with
  | none => (badField 0, s)
  | some m =>
    if threshold < 65 ∨ 1024 < threshold then (badField 1, s)
    else
      let s' := { s with sac := { s.sac with mode := m, threshold } }.testLatch
      (.accepted (.guardMode s.sac.mode s.sac.threshold s'.sac.latch), s')

/-- GUARD_MODE (R164). -/
def execGuardMode (mode threshold : Nat) (s : State) : Host.Outcome State Fault Refusal :=
  .next (s.serve (.guardMode mode threshold) 0x32 false fun _ => guardMode mode threshold)

/-- The statement a close of an account at period P makes (R153). -/
def Account.statementAt (period : Nat) (a : Account) : Statement :=
  ⟨a.total, a.saturated, a.billed, a.answered, a.unanswered, a.lost, a.openedAt, period⟩

/-- An account closed at settlement period P: its statement, zeroed live fields, unlocked, opened at P + 1 (R151). -/
def Account.close (period : Nat) (a : Account) : Account :=
  ⟨0, false, 0, 0, 0, 0, false, (period + 1) % 65536, some (a.statementAt period)⟩

/-- A carrier's two accounts closed, and its standing re-evaluated (R151). -/
def State.closeCarrier (period : Nat) (i : Fin 63) (s : State) : State :=
  (s.changeCarrier i fun c =>
    { c with outAccount := c.outAccount.close period, inAccount := c.inAccount.close period }).reevaluate i

/-- The settlement period number advances (R150). -/
def State.nextPeriod (s : State) : State := { s with sac := { s.sac with period := (s.sac.period + 1) % 65536 } }

/-- Number of a carrier's accounts that are locked (R152). -/
def Carrier.lockedAccounts (c : Carrier) : Nat := (if c.outAccount.locked then 1 else 0) + (if c.inAccount.locked then 1 else 0)

/-- PERIOD_CLOSE for ALL: every carrier in ascending order at one P (R152). -/
def closeAll (s : State) : Answer × State :=
  let s' := ((List.finRange 63).foldl (fun t i => t.closeCarrier s.sac.period i) s).nextPeriod
  (.accepted (.closedAll 126 ((s.sac.carriers.toList.map Carrier.lockedAccounts).sum) s'.sac.period), s')

/-- PERIOD_CLOSE at its owning block (R151, R152). -/
def periodClose (carrier : Nat) (s : State) : Answer × State :=
  if carrier = 255 then closeAll s
  else match carrierIndex carrier with
    | none => (badField 0, s)
    | some i =>
      let s' := (s.closeCarrier s.sac.period i).nextPeriod
      (.accepted (.closed s'.sac.carriers[i].outAccount.statement s'.sac.carriers[i].inAccount.statement s'.sac.period), s')

/-- PERIOD_CLOSE (R151). -/
def execPeriodClose (carrier : Nat) (s : State) : Host.Outcome State Fault Refusal :=
  .next (s.serve (.periodClose carrier) 0x40 false fun _ => periodClose carrier)

/-- RECORDS_FETCH at its owning block: the oldest records leave the queue, then the latch is tested (R166). -/
def recordsFetch (count : Nat) (s : State) : Answer × State :=
  let n := clamp 1 8 count
  let taken := s.sac.records.take n
  let s := { s with sac := { s.sac with records := s.sac.records.drop n } }.testLatch
  (.accepted (.records taken s.sac.records.length), s)

/-- RECORDS_FETCH (R166); taken during a sweep too (R46). -/
def execRecordsFetch (count : Nat) (s : State) : Host.Outcome State Fault Refusal :=
  .next (s.serve (.recordsFetch count) 0x41 true fun _ => recordsFetch count)

end Sys2Proof.Machine
end

