-- ==== Sys2Proof/Machine/Calendar.lean ====
section
/-! DEFINITION. CLK: calendar instants of stamps (R108), day types (R109), the period in force (R112) and the time a span spends
in each period (R113). An instant is counted in ds from the start of today. -/

namespace Sys2Proof.Machine

/-- The present time of day in ds from the start of today; 864,000 while a midnight is due (log 7). -/
def Clk.presentDs (c : Clk) : Nat := if c.midnightDue then Config.day else c.ds

/-- The calendar instant of a stamp, in ds from the start of today: the present less the elapsed count (R108). -/
def Clk.instant (c : Clk) (stamp : Count) : Int := (c.presentDs : Int) - ((c.count - stamp).toNat : Int)

/-- The day an instant lies on, 0 today, -1 yesterday (R108). -/
def dayOf (i : Int) : Int := i / (Config.day : Int)

/-- An instant's ds of day (R108). -/
def dsOf (i : Int) : Nat := (i % (Config.day : Int)).toNat

/-- The weekday of day n (R108). -/
def Clk.weekdayOf (c : Clk) (n : Int) : Fin 7 := ⟨(((c.weekday : Int) + n) % 7).toNat, by omega⟩

/-- The day type of day n (R109). -/
def Clk.dayType (c : Clk) (n : Int) : DayType :=
  if (n = 0 ∧ c.today = true) ∨ (n = -1 ∧ c.yesterday = true) then .rest else c.week[c.weekdayOf n]

/-- The schedule of a day type (6.4). -/
def Clk.schedule (c : Clk) : DayType → Schedule
  | .work => c.work
  | .rest => c.rest

/-- The period in force at a ds of day under a schedule: that of the last boundary at or before it (R112). -/
def Schedule.periodAt (x : Schedule) (ds : Nat) : Nat :=
  x.boundaries.foldl (fun p b => if 600 * b.1 ≤ ds then b.2 else p) x.start

/-- The tariff period in force at an instant, with the clock SET (R112). -/
def Clk.periodAt (c : Clk) (i : Int) : Nat := (c.schedule (c.dayType (dayOf i))).periodAt (dsOf i)

/-- A day cut at its boundaries: pieces from a ds of day to another, each with its period (R112, R113). -/
def pieces (start period : Nat) : List (Nat × Nat) → List (Nat × Nat × Nat)
  | [] => [(start, Config.day, period)]
  | (m, p) :: t => (start, 600 * m, period) :: pieces (600 * m) p t

/-- The ds two half-open intervals of instants share. -/
def overlapDs (a b a' b' : Int) : Nat := (min b b' - max a a').toNat

/-- The ds that the span from a to b spends in period p on day n (R113). -/
def Clk.timeOnDay (c : Clk) (p : Nat) (a b n : Int) : Nat :=
  let x := c.schedule (c.dayType n)
  let at0 : Int := n * (Config.day : Int)
  ((pieces 0 x.start x.boundaries).map fun q =>
    if q.2.2 = p then overlapDs (at0 + q.1) (at0 + q.2.1) a b else 0).sum

/-- The ds that a span of `len` ds from instant a spends in period p. A span is at most 864,000 ds long, so it lies in its first
day and the next; three days are looked at (R113, R126). -/
def Clk.timeIn (c : Clk) (a : Int) (len p : Nat) : Nat :=
  let b : Int := a + (len : Int)
  let d := dayOf a
  c.timeOnDay p a b d + c.timeOnDay p a b (d + 1) + c.timeOnDay p a b (d + 2)

/-- The calendar's next day: ds of day 0, the next weekday, and the overrides moved on (R106). -/
def Clk.rollOver (c : Clk) : Clk :=
  { c with ds := 0, weekday := (c.weekday + 1) % 7, yesterday := c.today, today := false, midnightDue := false }

/-- The end of a decisecond on the calendar and the count: both take +1; passing 863,999 makes a midnight due (R104, R105; log 7).
A midnight still due from the decisecond before is taken first. -/
def Clk.advance (c : Clk) : Clk :=
  let c := if c.midnightDue then c.rollOver else c
  if c.ds + 1 < Config.day then { c with count := c.count + 1, ds := c.ds + 1 }
  else { c with count := c.count + 1, midnightDue := true }

end Sys2Proof.Machine
end

