-- ==== Sys2Proof/Machine/Rating.lean ====
section
/-! DEFINITION. RTE and SAC at the end of a call: the nine stages of a leg's rating (7.3), its accounting, record and standing
(R135, R140, R162, R163), the unanswered legs (R45), and the legs of a context in the order they are handed (R44). -/

namespace Sys2Proof.Machine

/-- A chargeable leg as RSE hands it over (R44): its carrier is `carrierAt index`. -/
structure Leg where
  direction : LegDir
  index : Fin 63
  group : Nat
  member : Nat
  band : Nat
  level : Nat
  guarded : Bool
deriving DecidableEq, Repr

/-- Stage 1, the duration in ds, modulo 2^32 (R123). -/
def durationOf (answer release : Count) : Nat := (release - answer).toNat

/-- Stage 2, the seconds: started seconds count whole, and the entry's minimum applies (R124). -/
def secondsOf (d minimum : Nat) : Nat := max ((d + 9) / 10) minimum

/-- The seconds raised to the next multiple of the increment, before the clamp of stage 3 (R125). -/
def raisedSeconds (s increment : Nat) : Nat := increment * ((s + increment - 1) / increment)

/-- Whether stage 3 clamps the leg at 24 hours (R125). -/
def isClamped (s increment : Nat) : Bool := decide (86400 < raisedSeconds s increment)

/-- Stage 3, the billed seconds (R125). -/
def billedOf (s increment : Nat) : Nat := min (raisedSeconds s increment) 86400

/-- Stage 4, the span's start from the release instant R (R126). -/
def spanStart (r : Int) (d : Nat) (clamped : Bool) : Int := r - (if clamped then (Config.day : Int) else (d : Int))

/-- Stage 5, the times t_0 to t_3 (R127); with the clock UNSET all of it is period 0 (R114, R128). -/
def periodTimes (c : Clk) (start : Int) (billed : Nat) : List Nat :=
  match c.clock with
  | .unset => [10 * billed, 0, 0, 0]
  | .set => (List.range 4).map (c.timeIn start (10 * billed))

/-- The rate r[b][p] of an entry (table 7.1). -/
def Tariff.rate (t : Tariff) (band period : Nat) : Nat := t.rates.toList.getD (4 * band + period) 0

/-- Stage 6, the sum N (R129). -/
def sumOf (t : Tariff) (band : Nat) (times : List Nat) : Nat :=
  ((List.range 4).map fun p => times.getD p 0 * t.rate band p).sum

/-- Stage 7, Base: N / 600 rounded half up (R130). -/
def baseOf (n : Nat) : Nat := (n + 300) / 600

/-- Stage 8, Adj: Base x M percent rounded half up (R131). -/
def adjOf (base factor : Nat) : Nat := (base * factor + 50) / 100

/-- Whether stage 9 caps the leg (R132). -/
def isCapped (adj fee cap : Nat) : Bool := decide (cap ≠ 0 ∧ cap < adj + fee)

/-- Stage 9, Total (R132). -/
def totalOf (adj fee cap : Nat) : Nat := if isCapped adj fee cap then cap else adj + fee

/-- The factor of a leg: 100 for IN, M_L for OUT (R120, R122). -/
def factorOf (t : Tariff) (d : LegDir) (level : Nat) : Nat :=
  match d with
  | .inLeg => 100
  | .outLeg => t.factors.toList.getD level 100

/-- The level recorded: 0 for IN, L for OUT (R120). -/
def levelRecorded (d : LegDir) (level : Nat) : Nat :=
  match d with
  | .inLeg => 0
  | .outLeg => level

/-- The period list of a leg's result: the periods with time, in ascending order, or one entry of time 0 when S is 0 (R134). -/
def periodList (c : Clk) (r : Int) (billed : Nat) (times : List Nat) : List (Nat × Nat) :=
  if billed = 0 then [((match c.clock with | .unset => 0 | .set => c.periodAt r), 0)]
  else ((List.range 4).map fun p => (p, times.getD p 0)).filter fun x => x.2 != 0

/-- The answer instant of a result: weekday and ds of day of the answer stamp, absent with the clock UNSET (R126, R128). -/
def answerInstant (c : Clk) (answer : Count) : Option (Nat × Nat) :=
  match c.clock with
  | .unset => none
  | .set => some ((c.weekdayOf (dayOf (c.instant answer))).val, dsOf (c.instant answer))

/-- The rating of one leg: its charge record, with the sequence and settlement period numbers SAC adds (R120 to R134, R158). -/
def rateRecord (c : Clk) (t : Tariff) (leg : Leg) (callRef : BitVec 32) (answer release : Count) (cut : Bool)
    (sequence : BitVec 32) (period : Nat) : ChargeRecord :=
  let d := durationOf answer release
  let s := secondsOf d t.minimum
  let billed := billedOf s t.increment
  let clamped := isClamped s t.increment
  let r := c.instant release
  let times := periodTimes c (spanStart r d clamped) billed
  let factor := factorOf t leg.direction leg.level
  let adj := adjOf (baseOf (sumOf t leg.band times)) factor
  { sequence, callRef, carrier := carrierAt leg.index, direction := leg.direction, group := leg.group, member := leg.member,
    band := leg.band, answerAt := answerInstant c answer, duration := d, billed, periods := periodList c r billed times,
    level := levelRecorded leg.direction leg.level, factor, fee := t.fee, charge := totalOf adj t.fee t.cap,
    generation := t.generation, period, clockUnset := c.clock == .unset, clamped, capped := isCapped adj t.fee t.cap,
    restartCut := cut }

/-- An account takes a rated leg's charge and billed seconds, counts it answered and is locked (R140, R141). -/
def Account.take (charge billed : Nat) (a : Account) : Account :=
  { a with
    total := min (a.total + charge) Config.totalMax
    saturated := a.saturated || decide (Config.totalMax ≤ a.total + charge)
    billed := min (a.billed + billed) Config.tallyMax
    answered := tallyUp a.answered
    locked := true }

/-- Change a carrier's account of a direction. -/
def State.changeAccount (i : Fin 63) (d : LegDir) (f : Account → Account) (s : State) : State :=
  s.changeCarrier i fun c => c.setAccount d (f (c.account d))

/-- The accounting step of a rated leg, raising ACCOUNT_SATURATED when the flag becomes set (R140, R141). -/
def State.account (i : Fin 63) (d : LegDir) (charge billed : Nat) (s : State) : State :=
  let a := s.sac.carriers[i].account d
  let s' := s.changeAccount i d (Account.take charge billed)
  if !a.saturated && (a.take charge billed).saturated then s'.raise (.accountSaturated (carrierAt i) d) else s'

/-- A rated leg's sequence number is used up (R159). -/
def State.nextSequence (s : State) : State := { s with sac := { s.sac with sequence := s.sac.sequence + 1 } }

/-- Append a record at the end of the queue and test the latch (R162, R165). -/
def State.append (r : ChargeRecord) (s : State) : State :=
  { s with sac := { s.sac with records := s.sac.records ++ [r] } }.testLatch

/-- A record with no room is lost: the account's lost records count and RECORD_LOST (R163). -/
def State.lose (i : Fin 63) (r : ChargeRecord) (s : State) : State :=
  (s.changeAccount i r.direction fun a => { a with lost := tallyUp a.lost }).raise
    (.recordLost r.sequence r.carrier r.direction)

/-- A rated leg's record is placed, or lost; the flag says whether it was queued (R162). A guarded leg's record takes the
leg's own place. -/
def State.placeRecord (i : Fin 63) (guarded : Bool) (r : ChargeRecord) (s : State) : Bool × State :=
  if guarded then (true, (s.settleGuard true).append r)
  else if s.sac.hasRoom then (true, s.append r)
  else (false, s.lose i r)

/-- One leg is rated, accounted, its record placed, and for an OUT leg the standing re-evaluated (R121, R135). -/
def State.rateLeg (callRef : BitVec 32) (answer release : Count) (cut : Bool) (leg : Leg) (s : State) : LegReply × State :=
  let r := rateRecord s.clk (s.rte.tariff leg.direction leg.index) leg callRef answer release cut s.sac.sequence s.sac.period
  let s := (s.account leg.index leg.direction r.charge r.billed).nextSequence
  let (queued, s) := s.placeRecord leg.index leg.guarded r
  let s := match leg.direction with
    | .outLeg => s.reevaluate leg.index
    | .inLeg => s
  (⟨leg.direction, carrierAt leg.index, .rated queued r.charge r.sequence⟩, s)

/-- A chargeable leg that ends without answer is counted in its account, and its guarded place given back (R45, R142, R161). -/
def State.endUnanswered (leg : Leg) (s : State) : LegReply × State :=
  let s := s.changeAccount leg.index leg.direction fun a => { a with unanswered := tallyUp a.unanswered }
  (⟨leg.direction, carrierAt leg.index, .unanswered⟩, s.settleGuard leg.guarded)

/-- The in-leg as rating takes it, if chargeable (R44, R120). -/
def Context.ratedIn (c : Context) : List Leg :=
  match carrierIndex c.inLeg.carrier with
  | some i => [⟨.inLeg, i, c.inLeg.group, c.inLeg.member, c.inLeg.band, 0, c.inLeg.guarded⟩]
  | none => []

/-- The out-leg as rating takes it, if present and chargeable, with the bypass level (R44, R71). -/
def Context.ratedOut (c : Context) : List Leg :=
  match c.outLeg with
  | some o =>
    match carrierIndex o.carrier with
    | some i => [⟨.outLeg, i, o.group, o.member, o.band, c.bypass, o.guarded⟩]
    | none => []
  | none => []

/-- The chargeable legs of a context, the in-leg first (R44). -/
def Context.legs (c : Context) : List Leg := c.ratedIn ++ c.ratedOut

/-- Hand legs on one by one, collecting the reply's entries. -/
def handLegs (f : Leg → State → LegReply × State) : List Leg → State → List LegReply × State
  | [], s => ([], s)
  | leg :: t, s =>
    let (r, s) := f leg s
    let (rs, s) := handLegs f t s
    (r :: rs, s)

/-- The end of a context's legs: rated when it was ANSWERED, counted unanswered otherwise (R43, R47). Every ANSWERED context has
an answer stamp (R29); were it absent, the duration would be 0. -/
def State.endLegs (c : Context) (release : Count) (cut : Bool) (s : State) : List LegReply × State :=
  if c.state = .answered then
    handLegs (State.rateLeg c.callRef (c.answerStamp.getD release) release cut) c.legs s
  else handLegs State.endUnanswered c.legs s

end Sys2Proof.Machine
end

