-- ==== Sys2Proof/Machine/Select.lean ====
section
/-! DEFINITION. RSE's selection procedure: prefix match (R52), the far-mark gate (R85, R86), list resolution (R100), the hunt
(R9 to R11), the five gates (R59 to R63), the walk (R58), the grant (R65), and the outcomes (R35). -/

namespace Sys2Proof.Machine

/-- Longest match of the called digits among the table's entries (R52). -/
def matchDest (called : List Nat) : Table Dest → Option (Nat × Dest)
  | [] => none
  | (i, d) :: t =>
    match matchDest called t with
    | none => if d.digits.isPrefixOf called then some (i, d) else none
    | some (j, e) =>
      if d.digits.isPrefixOf called && decide (e.digits.length < d.digits.length) then some (i, d) else some (j, e)

/-- The far-mark gate's verdict (R85). -/
def markAdmits (mark gap : Nat) : Priority → Bool
  | .essential => true
  | .normal => decide (mark < 2 ∨ gap = 0)
  | .deferrable => decide (mark = 0)

/-- The gap counter after an application of the gate (R86). -/
def nextGap (mark gap : Nat) : Priority → Nat
  | .normal => if mark = 2 then (if gap = 3 then 0 else gap + 1) else gap
  | .essential => gap
  | .deferrable => gap

/-- The far-mark gate of a destination: tests, then advances the gap counter (R85, R86). -/
def State.farGate (i : Nat) (d : Dest) (p : Priority) (s : State) : Bool × State :=
  (markAdmits d.mark d.gap p, s.setDest i { d with gap := nextGap d.mark d.gap p })

/-- The resolved list of a base list: the substitute of the lowest-numbered ACTIVE slot on it, or itself (R100). -/
def resolveList (slots : List Slot) (base : Nat) : Nat :=
  match slots.find? fun x => x.state == .active && x.base == base with
  | some x => x.substitute
  | none => base

/-- The reserve k a cell of R78's table asks, in multiples of the reservation r; none is barred. -/
def reserveFor (level : Nat) (p : Priority) (firstChoice : Bool) (r : Nat) : Option Nat :=
  match p, firstChoice, level with
  | .essential, _, _ => some 0
  | _, _, 0 => some 0
  | .normal, true, 4 => some r
  | .normal, true, _ => some 0
  | .normal, false, 1 => some r
  | .normal, false, 2 => some (2 * r)
  | .normal, false, _ => none
  | .deferrable, true, 1 => some 0
  | .deferrable, true, 2 => some r
  | .deferrable, true, 3 => some (2 * r)
  | .deferrable, true, _ => none
  | .deferrable, false, 1 => some r
  | .deferrable, false, 2 => some (2 * r)
  | .deferrable, false, _ => none

/-- Gate 4's decision from the verdict and the idle count (R62). -/
def reservePasses (reserve : Option Nat) (idle : Nat) : Bool :=
  match reserve with
  | none => false
  | some k => decide (k = 0 ∨ k < idle)

/-- The order in which a hunt examines the members (R10, R11). -/
def Group.huntSequence (g : Group) : List Nat :=
  let up := List.range g.size
  match g.direction with
  | .both => if g.farKey < g.localKey then up.reverse else up
  | _ =>
    match g.huntOrder with
    | .ascending => up
    | .descending => up.reverse
    | .rotating => up.drop g.rotate ++ up.take g.rotate

/-- A member a hunt may take: IDLE and not in the tried list (R9). -/
def Group.eligible (g : Group) (number : Nat) (tried : List (Nat × Nat)) (m : Nat) : Bool :=
  match g.members[m]? with
  | some c => c.state == .idle && !tried.contains (number, m)
  | none => false

/-- The rotate pointer after a hunt that takes member m (R10). -/
def Group.rotated (g : Group) (m : Nat) : Nat :=
  if g.direction = .outgoing ∧ g.huntOrder = .rotating then (if m + 1 = g.size then 0 else m + 1) else g.rotate

/-- A circuit seized outward for a context, its seize timer started (R9, R15). -/
def Circuit.seized (timeout context : Nat) : Circuit := ⟨.outPending, false, false, some context, none, some timeout⟩

/-- The hunt of a group for a context: the attempts tally counts; a taken circuit goes to OUT_PENDING (R9). -/
def State.hunt (g : Nat) (r : Group) (n : Nat) (tried : List (Nat × Nat)) (s : State) : Option Nat × State :=
  let counted := { r with tallies := { r.tallies with attempts := tallyUp r.tallies.attempts } }
  match r.huntSequence.find? (r.eligible g tried) with
  | some m =>
    (some m, s.setGroup g { counted.setCircuit m (Circuit.seized r.seizeTimeout n) with rotate := r.rotated m })
  | none => (none, s.setGroup g counted)

/-- A skip counted in the summary (R66). -/
def Skips.count (k : Skips) : Skip → Skips
  | .undefined => { k with undefined := k.undefined + 1 }
  | .groupState => { k with groupState := k.groupState + 1 }
  | .standing => { k with standing := k.standing + 1 }
  | .recordFull => { k with recordFull := k.recordFull + 1 }
  | .congestion => { k with congestion := k.congestion + 1 }
  | .noIdle => { k with noIdle := k.noIdle + 1 }

/-- No entry skipped. -/
def Skips.zero : Skips := ⟨0, 0, 0, 0, 0, 0⟩

/-- The bypass level is raised to a skipped group's level (R70). -/
def State.raiseBypass (n level : Nat) (s : State) : State :=
  s.changeContext n fun c => { c with bypass := max c.bypass level }

/-- A carrier's standing as gate 2 reads it; carrier 0 is NORMAL (R60). -/
def State.standing (s : State) (carrier : Nat) : Standing :=
  match carrierIndex carrier with
  | some i => s.sac.carriers[i].standing
  | none => .normal

/-- Gate 2's verdict (R60). -/
def standingPasses (st : Standing) (firstChoice : Bool) : Bool :=
  match st with
  | .normal => true
  | .watch => firstChoice
  | .suspended => false

/-- Gate 1: an IN_SERVICE group that is OUTGOING or BOTH passes (R59). -/
def Group.inRoute (r : Group) : Bool := r.direction != .incoming && r.state == .inService

/-- Gate 3 fails: STRICT mode, a chargeable carrier and no record room (R61). -/
def State.recordBarred (s : State) (carrier : Nat) : Bool := s.guards carrier && !s.sac.hasRoom

/-- The effects of a hunt that finds nothing, in R63's order: bypass level, overflows tally, score. -/
def State.overflow (n g : Nat) (r : Group) (s : State) : State :=
  ((s.raiseBypass n r.level).countTally g fun t => { t with overflows := tallyUp t.overflows }).setScore g
    (min (r.score + 1) 15)

/-- The grant of a circuit to a context: record room, out-leg, attempts, tried list, resume index, PENDING (R35, R65). -/
def State.grant (n idx : Nat) (e : RouteEntry) (r : Group) (m : Nat) (s : State) : State :=
  let guarded := s.guards r.carrier
  (s.admitLeg guarded).changeContext n fun c =>
    { c with
      state := .pending
      outLeg := some ⟨e.group, m, idx, e.band, r.carrier, guarded⟩
      progress := c.progress.map fun p => { p with used := p.used + 1, tried := p.tried ++ [(e.group, m)], resume := idx }
      haltCause := none }

/-- An entry put to the five gates: granted a member, or skipped with the first failing gate's reason (R58 to R65). -/
def State.examine (n idx : Nat) (p : Priority) (tried : List (Nat × Nat)) (e : RouteEntry) (s : State) :
    (Skip ⊕ Nat) × State :=
  match s.group? e.group with
  | none => (.inl .undefined, s)
  | some r =>
    if !r.inRoute then (.inl .groupState, s)
    else if !standingPasses (s.standing r.carrier) (idx == 0) then (.inl .standing, s)
    else if s.recordBarred r.carrier then (.inl .recordFull, s)
    else if !reservePasses (reserveFor r.level p (idx == 0) r.reservation) r.idle then
      (.inl .congestion, s.raiseBypass n r.level)
    else
      match s.hunt e.group r n tried with
      | (some m, s) => (.inr m, s.grant n idx e r m)
      | (none, s) => (.inl .noIdle, s.overflow n e.group r)

/-- The walk over the entries from index `idx` on (R58, R66). -/
def State.walk (n : Nat) (p : Priority) (tried : List (Nat × Nat)) : Nat → List RouteEntry → Skips → State → Selection × State
  | _, [], k, s => (.exhausted k, s)
  | idx, e :: t, k, s =>
    match s.examine n idx p tried e with
    | (.inr m, s) => (.granted e.group m idx, s)
    | (.inl why, s) => State.walk n p tried (idx + 1) t (k.count why) s

/-- The walk of a context from its resume index over a list's present contents (R54, R58). -/
def State.walkList (n l : Nat) (p : Priority) (g : Progress) (s : State) : Selection × State :=
  s.walk n p g.tried g.resume ((s.list l).drop g.resume) Skips.zero

/-- The first selection of a context, made by ROUTE (R56). -/
def State.firstSelection (n : Nat) (c : Context) (g : Progress) (called : List Nat) (s : State) : Selection × State :=
  match matchDest called s.rse.dests with
  | none => (.noRoute, s)
  | some (i, d) =>
    let s := s.changeContext n fun c => { c with destination := some i }
    let (admitted, s) := s.farGate i d c.priority
    if !admitted then (.farCongested, s)
    else
      let l := resolveList s.rse.slots.toList d.list
      (s.changeContext n fun c => { c with resolved := some l }).walkList n l c.priority g

/-- A crankback of a context: the stored place, the far-mark gate, the stored list (R57). Every context that cranks back has a
destination, a resolved list and its progress (R57); without them nothing could be tried, as at a vacant place. -/
def State.crankback (n : Nat) (c : Context) (s : State) : Selection × State :=
  match c.destination, c.resolved, c.progress with
  | some i, some l, some g =>
    match s.dest? i with
    | none => (.noRoute, s)
    | some d =>
      let (admitted, s) := s.farGate i d c.priority
      if !admitted then (.farCongested, s) else s.walkList n l c.priority g
  | _, _, _ => (.noRoute, s)

/-- Whether attempts used is below the budget (R31, R39). -/
def Context.mayTry (c : Context) : Bool :=
  match c.progress with
  | some g => decide (g.used < g.budget)
  | none => false

/-- Whether a selection granted a circuit. -/
def Selection.isGrant : Selection → Bool
  | .granted _ _ _ => true
  | .exhausted _ => false
  | .overBudget => false
  | .noRoute => false
  | .farCongested => false

/-- A selection without a grant leaves the context SPENT, its halt cause removed (R35). -/
def State.spend (n : Nat) (o : Selection) (s : State) : State :=
  if o.isGrant then s else s.changeContext n fun c => { c with state := .spent, haltCause := none }

/-- CONTINUE of a HALTED context: a crankback within the budget, or EXHAUSTED with reason BUDGET (R39). -/
def State.continueFrom (n : Nat) (c : Context) (s : State) : Selection × State :=
  let (o, s) := if c.mayTry then s.crankback n c else (.overBudget, s)
  (o, s.spend n o)

end Sys2Proof.Machine
end

