-- ==== Sys2Proof/Machine/Calls.lean ====
section
/-! DEFINITION. The call requests (chapters 1 to 3): SEIZE_IN, ROUTE, CONTINUE, CONFIRM, FAIL, ANSWER, RELEASE. -/

namespace Sys2Proof.Machine

/-! ### SEIZE_IN (R23 to R25, R33) -/

/-- A context newly taken for an incoming seizure: IN_ONLY with its in-leg and bypass level 0 (R30, R33). -/
def Context.incoming (callRef : BitVec 32) (p : Priority) (g m : Nat) (r : Group) (guarded : Bool) : Context :=
  { state := .inOnly, callRef, priority := p, inLeg := ⟨g, m, r.carrier, r.inboundBand, guarded⟩, outLeg := none,
    destination := none, resolved := none, progress := none, bypass := 0, answerStamp := none, haltCause := none }

/-- The lowest-numbered FREE context (R28). -/
def State.takeContext? (s : State) : Option Nat := lowestFree s.rse.contexts Config.contexts 0

/-- A circuit seized from the far end for a new context; block pending is kept (R18, R23, R25). -/
def Circuit.incoming (n : Nat) (c : Circuit) : Circuit := ⟨.inBusy, c.blockPending, false, some n, none, none⟩

/-- The new context and its circuit, and its record place when guarded (R23, R25, R33, R160). -/
def State.acceptSeizure (g m : Nat) (r : Group) (c : Circuit) (callRef : BitVec 32) (p : Priority) (n : Nat) (s : State) :
    State :=
  let guarded := s.guards r.carrier
  ((s.setCircuit g m (c.incoming n)).admitLeg guarded).setContext n (Context.incoming callRef p g m r guarded)

/-- The losing context of a glare yield: its out-leg dropped and settled, the re-hunt within the budget, and HALTED with cause
GLARE unless that grants (R25, R41). -/
def State.loseGlare (n : Nat) (s : State) : Selection × State :=
  match s.context? n with
  | none => (.overBudget, s)
  | some c =>
    let guarded := match c.outLeg with | some o => o.guarded | none => false
    let c := { c with outLeg := none }
    let s := (s.setContext n c).settleGuard guarded
    let (o, s) := if c.mayTry then s.crankback n c else (.overBudget, s)
    (o, if o.isGrant then s else s.changeContext n fun c => { c with state := .halted, haltCause := some .glare })

/-- The glare tallies (R8, R24, R25). -/
def Tallies.won (t : Tallies) : Tallies := { t with glareWon := tallyUp t.glareWon }
/-- R25. -/
def Tallies.lost (t : Tallies) : Tallies := { t with glareLost := tallyUp t.glareLost }

/-- Glare that this end loses: the circuit yields to a new context, when one is FREE and room exists (R25). -/
def State.yieldGlare (g m : Nat) (r : Group) (c : Circuit) (callRef : BitVec 32) (p : Priority) (s : State) : Answer × State :=
  match s.takeContext? with
  | none => (.denied .noContext, s)
  | some n =>
    if s.recordBarred r.carrier then (.denied .recordFull, s)
    else
      let s := s.acceptSeizure g m r c callRef p n
      let loser := c.context.getD 0
      let (o, s) := s.loseGlare loser
      (.accepted (.seized n (some (loser, o))), (s.countTally g Tallies.lost).raise (.glare g m))

/-- SEIZE_IN at its owning block, in R23's order of checks. -/
def seizeIn (g m : Nat) (callRef : BitVec 32) (priority : Nat) (s : State) : Answer × State :=
  match s.group? g with
  | none => (badField 0, s)
  | some r =>
    match r.members[m]? with
    | none => (badField 1, s)
    | some c =>
      match decodePriority priority with
      | none => (badField 3, s)
      | some p =>
        if r.direction = .outgoing then (.denied .wrongDirection, s)
        else if r.state = .blocked then (.denied .groupBlocked, s)
        else match c.state with
          | .blocked => (.denied .circuitBlocked, s)
          | .outBusy => (.denied .circuitBusy, s)
          | .inBusy => (.denied .circuitBusy, s)
          | .outPending =>
              if r.farKey < r.localKey then (.denied .glareRejected, s.countTally g Tallies.won)
              else s.yieldGlare g m r c callRef p
          | .idle =>
              match s.takeContext? with
              | none => (.denied .noContext, s)
              | some n =>
                if s.recordBarred r.carrier then (.denied .recordFull, s)
                else (.accepted (.seized n none), s.acceptSeizure g m r c callRef p n)
          | .guard =>
              match s.takeContext? with
              | none => (.denied .noContext, s)
              | some n =>
                if s.recordBarred r.carrier then (.denied .recordFull, s)
                else (.accepted (.seized n none), s.acceptSeizure g m r c callRef p n)

/-- SEIZE_IN (R23). -/
def execSeizeIn (g m : Nat) (callRef : BitVec 32) (priority : Nat) (s : State) : Host.Outcome State Fault Refusal :=
  .next (s.serve (.seizeIn g m callRef priority) 0x01 false fun _ => seizeIn g m callRef priority)

/-! ### ROUTE and CONTINUE (R34, R39) -/

/-- ROUTE at its owning block (R34): the progress made present, the first selection, its outcome applied. -/
def route (n budget : Nat) (called : DigitField) (s : State) : Answer × State :=
  if 4095 < n then (badField 0, s)
  else match readDigits 24 called with
    | none => (badField 2, s)
    | some digits =>
      match s.context? n with
      | none => (.denied .wrongState, s)
      | some c =>
        if c.state ≠ .inOnly then (.denied .wrongState, s)
        else
          let g : Progress := ⟨clamp 1 15 budget, 0, [], 0⟩
          let c := { c with progress := some g }
          let (o, s) := (s.setContext n c).firstSelection n c g digits
          (.selection none o, s.spend n o)

/-- ROUTE (R34). -/
def execRoute (n budget : Nat) (called : DigitField) (s : State) : Host.Outcome State Fault Refusal :=
  .next (s.serve (.route n budget called) 0x02 false fun _ => route n budget called)

/-- CONTINUE at its owning block (R39). -/
def continueCall (n : Nat) (s : State) : Answer × State :=
  if 4095 < n then (badField 0, s)
  else match s.context? n with
    | none => (.denied .wrongState, s)
    | some c =>
      if c.state ≠ .halted then (.denied .wrongState, s)
      else
        let (o, s) := s.continueFrom n c
        (.selection none o, s)

/-- CONTINUE (R39). -/
def execContinue (n : Nat) (s : State) : Host.Outcome State Fault Refusal :=
  .next (s.serve (.continueCall n) 0x03 false fun _ => continueCall n)

/-! ### CONFIRM and FAIL (R36 to R38) -/

/-- What a report that names a circuit finds (R36, R37): the refusal, or the context with the out-leg named, PENDING. -/
def reportOn (n g m : Nat) (s : State) : Deny ⊕ (Context × OutLeg) :=
  match s.context? n with
  | none => .inl .wrongState
  | some c =>
    match c.state, c.outLeg with
    | .halted, _ => .inl .halted
    | .pending, some o => if o.group = g ∧ o.member = m then .inr (c, o) else .inl .stale
    | .established, some o => if o.group = g ∧ o.member = m then .inl .wrongState else .inl .stale
    | .answered, some o => if o.group = g ∧ o.member = m then .inl .wrongState else .inl .stale
    | _, _ => .inl .wrongState

/-- The circuit a report names must be a member of a defined group (R32). -/
def badCircuit (s : State) (groupField memberField g m : Nat) : Option Answer :=
  match s.group? g with
  | none => some (badField groupField)
  | some r => if r.size ≤ m then some (badField memberField) else none

/-- A confirmed circuit goes from OUT_PENDING to OUT_BUSY, its seize timer stopped (R15, R36). -/
def Circuit.confirmed (c : Circuit) : Circuit :=
  if c.state = .outPending then { c with state := .outBusy, seizeTimer := none } else c

/-- CONFIRM at its owning block (R36). -/
def confirm (n g m : Nat) (s : State) : Answer × State :=
  if 4095 < n then (badField 0, s)
  else match badCircuit s 1 2 g m with
    | some a => (a, s)
    | none =>
      match reportOn n g m s with
      | .inl d => (.denied d, s)
      | .inr _ =>
        (.accepted .plain,
          (s.changeGroup g fun r => { r with members := r.members.modify m Circuit.confirmed }).changeContext n fun c =>
            { c with state := .established })

/-- CONFIRM (R36). -/
def execConfirm (n g m : Nat) (s : State) : Host.Outcome State Fault Refusal :=
  .next (s.serve (.confirm n g m) 0x04 false fun _ => confirm n g m)

/-- The halt cause of a FAIL's cause (R37). -/
def FailCause.halt : FailCause → HaltCause
  | .circuitFault => .fault
  | .farCongestion => .farCongestion
  | .farRefused => .farRefused

/-- The resume index after a FAIL: the same entry after a fault, the next after a far failure (R37). -/
def FailCause.resume (entry : Nat) : FailCause → Option Nat
  | .circuitFault => none
  | .farCongestion => some (entry + 1)
  | .farRefused => some (entry + 1)

/-- A context halted without its out-leg (R37, R40); the resume index moves when given. -/
def Context.halt (cause : HaltCause) (resume : Option Nat) (c : Context) : Context :=
  { c with
    state := .halted, outLeg := none, haltCause := some cause
    progress := c.progress.map fun p => { p with resume := resume.getD p.resume } }

/-- The circuit's end in a FAIL: a fault release or an ordinary one (R37). -/
def State.failCircuit (cause : FailCause) (g m : Nat) (s : State) : State :=
  match cause with
  | .circuitFault => s.faultRelease g m
  | .farCongestion => s.ordinaryRelease g m
  | .farRefused => s.ordinaryRelease g m

/-- The failure a FAIL reports: the circuit released, the out-leg removed and settled, the context HALTED (R37). -/
def State.failAttempt (cause : FailCause) (n : Nat) (o : OutLeg) (s : State) : State :=
  ((s.failCircuit cause o.group o.member).settleGuard o.guarded).changeContext n
    (Context.halt cause.halt (cause.resume o.entry))

/-- The budget that remains to a context (R37). -/
def Context.remaining (c : Context) : Nat :=
  match c.progress with
  | some g => g.budget - g.used
  | none => 0

/-- FAIL at its owning block (R37), followed at once by CONTINUE when its flag is set (R38). -/
def failCall (n g m cause continueFlag : Nat) (s : State) : Answer × State :=
  if 4095 < n then (badField 0, s)
  else match badCircuit s 1 2 g m, decodeFailCause cause, decodeFlag continueFlag with
    | some a, _, _ => (a, s)
    | none, none, _ => (badField 3, s)
    | none, some _, none => (badField 4, s)
    | none, some cause, some again =>
      match reportOn n g m s with
      | .inl d => (.denied d, s)
      | .inr (c, o) =>
        let s := s.failAttempt cause n o
        if again then
          match s.context? n with
          | some c =>
            let (out, s) := s.continueFrom n c
            (.selection (some cause.halt) out, s)
          | none => (.denied .wrongState, s)
        else (.accepted (.failed cause.halt c.remaining), s)

/-- FAIL (R37, R38). -/
def execFail (n g m cause continueFlag : Nat) (s : State) : Host.Outcome State Fault Refusal :=
  .next (s.serve (.failCall n g m cause continueFlag) 0x05 false fun _ => failCall n g m cause continueFlag)

/-! ### ANSWER and RELEASE (R42, R43) -/

/-- ANSWER at its owning block: an ESTABLISHED context goes to ANSWERED with the request's arrival count (R42). -/
def answer (n : Nat) (arrival : Count) (s : State) : Answer × State :=
  if 4095 < n then (badField 0, s)
  else match s.context? n with
    | none => (.denied .wrongState, s)
    | some c =>
      if c.state ≠ .established then (.denied .wrongState, s)
      else (.accepted .plain, s.setContext n { c with state := .answered, answerStamp := some arrival })

/-- ANSWER (R42). -/
def execAnswer (n : Nat) (s : State) : Host.Outcome State Fault Refusal :=
  .next (s.serve (.answer n) 0x06 false fun arrival => answer n arrival)

/-- The ordinary release of each leg's circuit, the in-leg's first (R43 step 1). -/
def State.releaseLegs (c : Context) (s : State) : State :=
  let s := s.ordinaryRelease c.inLeg.group c.inLeg.member
  match c.outLeg with
  | some o => s.ordinaryRelease o.group o.member
  | none => s

/-- RELEASE at its owning block: circuits, legs, guarded flags, context, in R43's order. -/
def release (n : Nat) (arrival : Count) (s : State) : Answer × State :=
  if 4095 < n then (badField 0, s)
  else match s.context? n with
    | none => (.denied .wrongState, s)
    | some c =>
      let (legs, s) := (s.releaseLegs c).endLegs c arrival false
      (.accepted (.released legs), s.freeContext n)

/-- RELEASE (R43). -/
def execRelease (n : Nat) (s : State) : Host.Outcome State Fault Refusal :=
  .next (s.serve (.release n) 0x07 false fun arrival => release n arrival)

end Sys2Proof.Machine
end

