-- ==== Sys2Proof/Machine/Events.lean ====
section
/-! DEFINITION. EVENT_CONFIG (chapter 10). -/

namespace Sys2Proof.Machine

/-- The kinds whose enable stays set (R170, R172). -/
def Kind.alwaysEnabled : Kind → Bool
  | .startup => true
  | .noticeOverflow => true
  | .groupLevel => false
  | .groupDrained => false
  | .glare => false
  | .circuitTrouble => false
  | .carrierStanding => false
  | .accountSaturated => false
  | .recordHigh => false
  | .recordLost => false
  | .farMarkExpired => false
  | .overlay => false
  | .linkTrouble => false
  | .restartDone => false

/-- A kind's enable after the mask is applied (R172 step 1). -/
def newEnable (mode : MaskMode) (mask : BitVec 16) (k : Kind) (before : Bool) : Bool :=
  if k.alwaysEnabled then before
  else match mode with
    | .merge => before || mask.getLsbD (kindCode k).val
    | .replace => mask.getLsbD (kindCode k).val

/-- The entry of a request that names a kind, if any (R172 step 2). -/
def entryFor (k : Kind) (entries : List (Nat × Nat × Nat)) : Option (Nat × Nat × Nat) :=
  entries.find? fun e => e.1 == (kindCode k).val

/-- A kind's configuration after an accepted EVENT_CONFIG (R172). -/
def newConfig (mode : MaskMode) (mask : BitVec 16) (entries : List (Nat × Nat × Nat)) (k : Kind) (c : KindConfig) : KindConfig :=
  match entryFor k entries with
  | some (_, p, r) => ⟨newEnable mode mask k c.enable, p, (decodeRoute r).getD c.route⟩
  | none => { c with enable := newEnable mode mask k c.enable }

/-- The configuration of every kind, in code order. -/
def Enu.reconfigured (e : Enu) (f : Kind → KindConfig → KindConfig) : Vector KindConfig 14 :=
  let g := fun k => f k (e.config k)
  #v[g .startup, g .groupLevel, g .groupDrained, g .glare, g .circuitTrouble, g .carrierStanding, g .accountSaturated,
     g .recordHigh, g .recordLost, g .farMarkExpired, g .overlay, g .linkTrouble, g .restartDone, g .noticeOverflow]

/-- The set of enabled kinds as a mask, bit n for kind n (R195, R199). -/
def Enu.enabledMask (e : Enu) : BitVec 16 :=
  allKinds.foldl (fun m k => if (e.config k).enable then m ||| ((1 : BitVec 16) <<< (kindCode k).val) else m) 0

/-- The elevated kind a request names: 0xFF is none, another code a kind or out of its set (R171, R195). -/
def readElevated (n : Nat) : Option (Option Kind) := if n = 255 then some none else (decodeKind n).map some

/-- EVENT_CONFIG at its owning block, in R171's order of checks. -/
def eventConfig (mode : Nat) (mask : BitVec 16) (elevated : Nat) (entries : List (Nat × Nat × Nat)) (s : State) : Answer × State :=
  match decodeMaskMode mode with
  | none => (badField 0, s)
  | some m =>
    if 14 < entries.length then (badField 3, s)
    else match badKindEntry 0 [] entries, readElevated elevated with
      | some a, _ => (a, s)
      | none, none => (badField 2, s)
      | none, some elevated =>
        let enu := { s.enu with kinds := s.enu.reconfigured (newConfig m mask entries), elevated }
        (.accepted (.events enu.enabledMask elevated), { s with enu })

/-- EVENT_CONFIG (R171). -/
def execEventConfig (mode : Nat) (mask : BitVec 16) (elevated : Nat) (entries : List (Nat × Nat × Nat)) (s : State) :
    Host.Outcome State Fault Refusal :=
  .next (s.serve (.eventConfig mode mask elevated entries) 0x38 false fun _ => eventConfig mode mask elevated entries)

end Sys2Proof.Machine
end

