-- ==== Sys2Proof/Machine/Groups.lean ====
section
/-! DEFINITION. The trunk group requests (chapter 1): GROUP_DEFINE, GROUP_BLOCK, GROUP_UNBLOCK, CIRCUIT_BLOCK,
CIRCUIT_UNBLOCK. -/

namespace Sys2Proof.Machine

/-- Two runs of the circuit table share an index (R2). -/
def runsOverlap (first size first' size' : Nat) : Bool := decide (first < first' + size' ∧ first' < first + size)

/-- Some other defined group's run shares an index with the run asked for (R2). -/
def overlapsOther (g first size : Nat) (t : Table Group) : Bool :=
  t.any fun x => x.1 != g && runsOverlap first size x.2.first x.2.size

/-- The record a GROUP_DEFINE makes, its clamped fields brought into range, every member IDLE (R1, R3, R4). -/
def newGroup (f : GroupFields) : Group :=
  { first := f.first
    direction := (decodeDirection f.direction).getD .incoming
    carrier := f.carrier
    inboundBand := f.inboundBand
    huntOrder := (decodeHuntOrder f.huntOrder).getD .ascending
    localKey := f.localKey
    farKey := f.farKey
    reservation := clamp 0 f.size f.reservation
    loadThreshold := clamp 1 f.size f.loadThreshold
    sampleInterval := clamp 10 600 f.sampleInterval
    guardTime := clamp 0 50 f.guardTime
    seizeTimeout := clamp 20 600 f.seizeTimeout
    state := .blocked
    rotate := 0
    tallies := Tallies.zero
    members := List.replicate f.size Circuit.fresh
    score := 0
    sampleTimer := none }

/-- A deletion: the group is undefined again and its run unassigned (R5). -/
def State.deleteGroup (g : Nat) (s : State) : State := { s with ctb := ⟨tdel s.ctb.groups g⟩ }

/-- GROUP_DEFINE at its owning block: field checks, then the checks that depend on the group's state, then deletion, creation or
redefinition (R1 to R5). -/
def groupDefine (f : GroupFields) (s : State) : Answer × State :=
  match badGroupFields f with
  | some a => (a, s)
  | none =>
    if f.size = 0 then
      match s.group? f.group with
      | none => (badField 2, s)
      | some r => if r.state ≠ .blocked then (.denied .groupBusy, s) else (.accepted .plain, s.deleteGroup f.group)
    else if Config.circuits < f.first + f.size then (badField 2, s)
    else if (s.group? f.group).any (fun r => r.state != .blocked) then (.denied .groupBusy, s)
    else if overlapsOther f.group f.first f.size s.ctb.groups then (.denied .overlap, s)
    else (.accepted .plain, s.setGroup f.group (newGroup f))

/-- GROUP_DEFINE (R1). -/
def execGroupDefine (f : GroupFields) (s : State) : Host.Outcome State Fault Refusal :=
  .next (s.serve (.groupDefine f) 0x10 false fun _ => groupDefine f)

/-- GROUP_BLOCK at its owning block (R17, R20). -/
def groupBlock (g : Nat) (s : State) : Answer × State :=
  match s.group? g with
  | none => (badField 0, s)
  | some r =>
    (.accepted .plain,
      match r.state with
      | .inService => if r.busy = 0 then s.enterBlocked g else s.setGroup g { r with state := .draining }
      | .draining => s
      | .blocked => s)

/-- GROUP_BLOCK (R20). -/
def execGroupBlock (g : Nat) (s : State) : Host.Outcome State Fault Refusal :=
  .next (s.serve (.groupBlock g) 0x11 false fun _ => groupBlock g)

/-- A group returned to IN_SERVICE with its sample timer at the full interval (R22, R73). -/
def Group.unblocked (r : Group) : Group := { r with state := .inService, sampleTimer := some r.sampleInterval }

/-- GROUP_UNBLOCK at its owning block (R17, R22). -/
def groupUnblock (g : Nat) (s : State) : Answer × State :=
  match s.group? g with
  | none => (badField 0, s)
  | some r =>
    (.accepted .plain,
      match r.state with
      | .inService => s
      | .draining => s.setGroup g r.unblocked
      | .blocked => s.setGroup g r.unblocked)

/-- GROUP_UNBLOCK (R22). -/
def execGroupUnblock (g : Nat) (s : State) : Host.Outcome State Fault Refusal :=
  .next (s.serve (.groupUnblock g) 0x12 false fun _ => groupUnblock g)

/-- What CIRCUIT_BLOCK makes of a circuit (R18). -/
def Circuit.block (c : Circuit) : Circuit :=
  match c.state with
  | .idle => Circuit.blockedWith false
  | .guard => Circuit.blockedWith false
  | .outPending => { c with blockPending := true }
  | .outBusy => { c with blockPending := true }
  | .inBusy => { c with blockPending := true }
  | .blocked => c

/-- What CIRCUIT_UNBLOCK makes of a circuit (R19). -/
def Circuit.unblock (c : Circuit) : Circuit :=
  match c.state with
  | .blocked => Circuit.fresh
  | .outPending => { c with blockPending := false }
  | .outBusy => { c with blockPending := false }
  | .inBusy => { c with blockPending := false }
  | .idle => c
  | .guard => c

/-- A circuit request: the checks of R17, then the change of the circuit. -/
def onCircuit (f : Circuit → Circuit) (g m : Nat) (s : State) : Answer × State :=
  match s.group? g with
  | none => (badField 0, s)
  | some r =>
    match r.members[m]? with
    | none => (badField 1, s)
    | some c => (.accepted .plain, s.setCircuit g m (f c))

/-- CIRCUIT_BLOCK (R18). -/
def execCircuitBlock (g m : Nat) (s : State) : Host.Outcome State Fault Refusal :=
  .next (s.serve (.circuitBlock g m) 0x13 false fun _ => onCircuit Circuit.block g m)

/-- CIRCUIT_UNBLOCK (R19). -/
def execCircuitUnblock (g m : Nat) (s : State) : Host.Outcome State Fault Refusal :=
  .next (s.serve (.circuitUnblock g m) 0x14 false fun _ => onCircuit Circuit.unblock g m)

end Sys2Proof.Machine
end

