-- ==== Sys2Proof/Machine/Replies.lean ====
section
/-! DEFINITION. The bytes the part sends: reply bodies (R198, R199), the contents of a QUERY (R200), the charge record (R202) and
the notice body (R203). -/

namespace Sys2Proof.Machine

/-! ### Small pieces -/

/-- A field of 1 or 2 bytes that may be absent, all ones when it is (R194). -/
def beOr (n : Nat) (v : Option Nat) : List Byte :=
  match v with
  | some x => be n x
  | none => List.replicate n 0xFF

/-- A 4-byte field that may be absent: a presence byte, then the value or 0 (R200). -/
def bePresent (v : Option Nat) : List Byte :=
  match v with
  | some x => be 1 1 ++ be 4 x
  | none => be 1 0 ++ be 4 0

/-- An event kind or none, 0xFF for none (R195). -/
def kindByte (k : Option Kind) : List Byte := beOr 1 (k.map fun k => (kindCode k).val)

/-- The selection detail's six reason counts (R198). -/
def skipsBytes (k : Skips) : List Byte :=
  be 1 k.undefined ++ be 1 k.groupState ++ be 1 k.standing ++ be 1 k.recordFull ++ be 1 k.congestion ++ be 1 k.noIdle

/-- The selection detail, 12 bytes, fields that do not apply 0 (R198). -/
def detailBytes : Selection → List Byte
  | .granted g m e => be 2 g ++ be 2 m ++ be 1 e ++ be 1 0 ++ skipsBytes Skips.zero
  | .exhausted k => be 2 0 ++ be 2 0 ++ be 1 0 ++ be 1 0 ++ skipsBytes k
  | .overBudget => be 2 0 ++ be 2 0 ++ be 1 0 ++ be 1 1 ++ skipsBytes Skips.zero
  | .noRoute => be 2 0 ++ be 2 0 ++ be 1 0 ++ be 1 0 ++ skipsBytes Skips.zero
  | .farCongested => be 2 0 ++ be 2 0 ++ be 1 0 ++ be 1 0 ++ skipsBytes Skips.zero

/-- What follows the status in a reply to ROUTE, CONTINUE or a continued FAIL: the detail with GRANTED and EXHAUSTED, and
nothing with NO_ROUTE and FAR_CONGESTED (R198). -/
def outcomeBytes (o : Selection) : List Byte :=
  match o with
  | .noRoute => []
  | .farCongested => []
  | .granted _ _ _ => detailBytes o
  | .exhausted _ => detailBytes o
  | .overBudget => detailBytes o

/-- A closing statement, 27 bytes; absent, all 0 (R199). -/
def statementBytes : Option Statement → List Byte
  | none => List.replicate 27 0
  | some x => be 1 1 ++ be 5 x.total ++ flag x.saturated ++ be 4 x.billed ++ be 4 x.answered ++ be 4 x.unanswered ++
      be 4 x.lost ++ be 2 x.openedAt ++ be 2 x.closedAt

/-- The period list's four places of 4 bytes, those beyond the list 0 (R202). -/
def periodPlaces (l : List (Nat × Nat)) : List Byte :=
  (List.range 4).flatMap fun i =>
    match l[i]? with
    | some (p, t) => be 1 p ++ be 3 t
    | none => be 4 0

/-- A record's flags byte (R202). -/
def recordFlags (r : ChargeRecord) : Nat :=
  (if r.clockUnset then 1 else 0) + (if r.clamped then 2 else 0) + (if r.capped then 4 else 0) + (if r.restartCut then 8 else 0)

/-- The first 20 bytes of a charge record: its number, its leg and the answer instant (R202). -/
def recordLeg (r : ChargeRecord) : List Byte :=
  be 4 r.sequence.toNat ++ be 4 r.callRef.toNat ++ be 1 r.carrier ++ be 1 (legDirCode r.direction) ++ be 2 r.group ++
  be 2 r.member ++ be 1 r.band ++ be 1 (recordFlags r) ++ beOr 1 (r.answerAt.map Prod.fst) ++
  be 3 ((r.answerAt.map Prod.snd).getD 0)

/-- Bytes 20 to 57 of a charge record: what was billed (R202). -/
def recordBill (r : ChargeRecord) : List Byte :=
  be 4 r.duration ++ be 4 r.billed ++ be 1 r.level ++ be 2 r.factor ++ be 2 r.fee ++
  be 4 r.charge ++ be 2 r.generation ++ be 2 r.period ++ be 1 r.periods.length ++ periodPlaces r.periods

/-- A charge record, 58 bytes (R202). -/
def recordBytes (r : ChargeRecord) : List Byte := recordLeg r ++ recordBill r

/-! ### Notices (R203) -/

/-- A notice's detail, before it is filled to 6 bytes (R203). -/
def eventDetail : Event → List Byte
  | .startup c => be 4 c.toNat
  | .groupLevel _ l => be 1 l
  | .groupDrained _ => []
  | .glare _ m => be 2 m
  | .circuitTrouble _ m c => be 2 m ++ be 1 (troubleCode c)
  | .carrierStanding _ st => be 1 (standingCode st)
  | .accountSaturated _ d => be 1 (legDirCode d)
  | .recordHigh raised => flag raised
  | .recordLost q c d => be 4 q.toNat ++ be 1 c ++ be 1 (legDirCode d)
  | .farMarkExpired _ l => be 1 l
  | .overlay _ st c => be 1 (slotStateCode st) ++ be 1 (overlayCauseCode c)
  | .linkTrouble c => be 1 (linkCauseCode c)
  | .restartDone r f => be 2 r ++ be 2 f
  | .noticeOverflow k => be 1 (kindCode k).val

/-- A run of bytes filled up with 0 to `n` (R194: bytes not used are sent as 0). -/
def fillTo (n : Nat) (l : List Byte) : List Byte := l ++ List.replicate (n - l.length) 0

/-- A notice body, 15 bytes (R203). -/
def noticeBytes (n : Notice) : List Byte :=
  be 1 (kindCode n.event.kind).val ++ beOr 2 n.event.subject ++ be 2 n.count ++ be 4 n.stamp.toNat ++
  fillTo 6 (eventDetail n.event)

/-! ### Replies (R198, R199) -/

/-- The state of a yielded context in a SEIZE_IN reply: PENDING after a grant, HALTED otherwise (R199). -/
def yieldedState (o : Selection) : CallState := if o.isGrant then .pending else .halted

/-- A leg's entry in a RELEASE reply (R199). -/
def legBytes (l : LegReply) : List Byte :=
  be 1 (legDirCode l.direction) ++ be 1 l.carrier ++
  match l.result with
  | .rated queued charge q => be 1 0 ++ be 1 (if queued then 0 else 1) ++ be 4 charge ++ be 4 q.toNat
  | .unanswered => be 1 1 ++ be 1 0 ++ be 4 0 ++ be 4 0

/-- The fields of an ACCEPTED reply (R199). -/
def acceptedBytes : Accepted → List Byte
  | .plain => []
  | .seized n none => be 2 n ++ be 1 0
  | .seized n (some (y, o)) =>
      be 2 n ++ be 1 1 ++ be 2 y ++ be 1 (callStateCode (yieldedState o)) ++ be 1 (selectionCode o) ++ detailBytes o
  | .failed c b => be 1 (haltCauseCode c) ++ be 1 b
  | .released ls => be 1 ls.length ++ ls.flatMap legBytes
  | .marked i b => be 2 i ++ be 1 b
  | .dest i => be 2 i
  | .slot a b => be 1 (slotStateCode a) ++ be 1 (slotStateCode b)
  | .tariff g d f => be 2 g ++ be 2 d ++ f.toList.flatMap (be 2)
  | .time c w d => be 1 (clockCode c) ++ be 1 w ++ be 3 d
  | .standing a b => be 1 (standingCode a) ++ be 1 (standingCode b)
  | .guardMode m t l => be 1 (guardModeCode m) ++ be 2 t ++ flag l
  | .events m k => be 2 m.toNat ++ kindByte k
  | .closed o i p => statementBytes o ++ statementBytes i ++ be 2 p
  | .closedAll a l p => be 1 a ++ be 1 l ++ be 2 p
  | .records rs f => be 1 rs.length ++ rs.flatMap recordBytes ++ be 2 f
  | .restarted r f => be 2 r ++ be 2 f
  | .contents b => b

/-- The halt cause that stands first after the status of a continued FAIL (R198). -/
def causeBytes (c : Option HaltCause) : List Byte :=
  match c with
  | some c => be 1 (haltCauseCode c)
  | none => []

/-- A reply body (R198). -/
def answerBytes : Answer → List Byte
  | .accepted f => be 1 0 ++ acceptedBytes f
  | .selection c o => be 1 (selectionCode o) ++ causeBytes c ++ outcomeBytes o
  | .denied d => be 1 (denyCode d)
  | .badField f e p => be 1 21 ++ be 1 f ++ be 1 e ++ be 1 p
  | .badLength n => be 1 22 ++ be 2 n
  | .unknownKind c => be 1 23 ++ [c]

/-! ### Contents of a QUERY (R200) -/

/-- The six tallies of a group. -/
def talliesBytes (t : Tallies) : List Byte :=
  be 4 t.attempts ++ be 4 t.overflows ++ be 4 t.glareWon ++ be 4 t.glareLost ++ be 4 t.timeouts ++ be 4 t.faults

/-- The fields of a group record that GROUP_DEFINE sets, in the order of 1.1. -/
def groupFields (r : Group) : List Byte :=
  be 2 r.first ++ be 2 r.size ++ be 1 (directionCode r.direction) ++ be 1 r.carrier ++ be 1 r.inboundBand ++
  be 1 (huntOrderCode r.huntOrder) ++ be 2 r.localKey ++ be 2 r.farKey ++ be 2 r.reservation ++ be 2 r.loadThreshold ++
  be 2 r.sampleInterval ++ be 1 r.guardTime ++ be 2 r.seizeTimeout

/-- The rest of a group record in the order of 1.1, then score, level and sample timer (R200). -/
def groupStanding (r : Group) : List Byte :=
  be 1 (groupStateCode r.state) ++ be 2 r.busy ++ be 2 r.idle ++ be 2 r.rotate ++ talliesBytes r.tallies ++ be 1 r.score ++
  be 1 r.level ++ beOr 2 r.sampleTimer

/-- The power-on values of the fields of 1.1 that GROUP_DEFINE sets. -/
def groupFieldsPowerOn : List Byte :=
  be 2 0 ++ be 2 0 ++ be 1 0 ++ be 1 0 ++ be 1 0 ++ be 1 0 ++ be 2 0 ++ be 2 0 ++ be 2 0 ++ be 2 1 ++ be 2 10 ++ be 1 0 ++ be 2 20

/-- The power-on values of the rest, with the sample timer stopped. -/
def groupStandingPowerOn : List Byte :=
  be 1 (groupStateCode .blocked) ++ be 2 0 ++ be 2 0 ++ be 2 0 ++ talliesBytes Tallies.zero ++ be 1 0 ++ be 1 0 ++ beOr 2 none

/-- GROUP: the record of 1.1 in its order, then score, level and sample timer; an undefined group with its power-on values. -/
def groupContents : Option Group → List Byte
  | some r => flag true ++ groupFields r ++ groupStanding r
  | none => flag false ++ groupFieldsPowerOn ++ groupStandingPowerOn

/-- The timer a circuit has running, guard or seize. -/
def Circuit.timer (c : Circuit) : Option Nat := if c.state = .guard then c.guardTimer else c.seizeTimer

/-- CIRCUIT: state, block pending, fault mark, context, timer. -/
def circuitContents (c : Circuit) : List Byte :=
  be 1 (circuitStateCode c.state) ++ flag c.blockPending ++ flag c.faultMark ++ beOr 2 c.context ++ beOr 2 c.timer

/-- The in-leg's parts (2.1). DESIGN CHOICE (log 21): an absent leg is sent as its parts, each all ones, with no presence byte. -/
def inLegBytes : Option InLeg → List Byte
  | some l => be 2 l.group ++ be 2 l.member ++ be 1 l.carrier ++ be 1 l.band ++ flag l.guarded
  | none => beOr 2 none ++ beOr 2 none ++ beOr 1 none ++ beOr 1 none ++ beOr 1 none

/-- The out-leg's parts (2.1). DESIGN CHOICE (log 21): an absent leg is sent as its parts, each all ones, with no presence byte. -/
def outLegBytes : Option OutLeg → List Byte
  | some l => be 2 l.group ++ be 2 l.member ++ be 1 l.entry ++ be 1 l.band ++ be 1 l.carrier ++ flag l.guarded
  | none => beOr 2 none ++ beOr 2 none ++ beOr 1 none ++ beOr 1 none ++ beOr 1 none ++ beOr 1 none

/-- The tried list as count and entries; an absent list as count 0 (log 13). -/
def triedBytes (l : List (Nat × Nat)) : List Byte := be 1 l.length ++ l.flatMap fun x => be 2 x.1 ++ be 2 x.2

/-- CONTEXT: the record of 2.1; FREE has state 0 and every other field absent. -/
def contextContents (c : Option Context) : List Byte :=
  let p := c.bind Context.progress
  be 1 ((c.map fun c => callStateCode c.state).getD 0) ++ bePresent (c.map fun c => c.callRef.toNat) ++
  beOr 1 (c.map fun c => priorityCode c.priority) ++ inLegBytes (c.map Context.inLeg) ++ outLegBytes (c.bind Context.outLeg) ++
  beOr 2 (c.bind Context.destination) ++ beOr 2 (c.bind Context.resolved) ++ beOr 1 (p.map Progress.budget) ++
  beOr 1 (p.map Progress.used) ++ triedBytes ((p.map Progress.tried).getD []) ++ beOr 1 (p.map Progress.resume) ++
  beOr 1 (c.map Context.bypass) ++ bePresent ((c.bind Context.answerStamp).map BitVec.toNat) ++
  beOr 1 ((c.bind Context.haltCause).map haltCauseCode)

/-- An account's live fields in the order of 8.1. -/
def accountBytes (a : Account) : List Byte :=
  be 5 a.total ++ flag a.saturated ++ be 4 a.billed ++ be 4 a.answered ++ be 4 a.unanswered ++ be 4 a.lost ++ flag a.locked ++
  be 2 a.openedAt

/-- A tariff entry in TARIFF_SET's order, then its generation. -/
def tariffBytes (t : Tariff) : List Byte :=
  t.rates.toList.flatMap (be 2) ++ be 2 t.fee ++ be 2 t.minimum ++ be 1 t.increment ++ t.factors.toList.flatMap (be 2) ++
  be 4 t.cap ++ be 2 t.generation

/-- CARRIER: the items of R155, OUT before IN. -/
def carrierContents (s : State) (i : Fin 63) : List Byte :=
  let c := s.sac.carriers[i]
  be 8 c.watch ++ be 8 c.cap ++ flag c.barred ++ be 1 (standingCode c.standing) ++ accountBytes c.outAccount ++
  accountBytes c.inAccount ++ statementBytes c.outAccount.statement ++ statementBytes c.inAccount.statement ++
  tariffBytes s.rte.outTariffs[i] ++ tariffBytes s.rte.inTariffs[i] ++ be 2 s.sac.period

/-- A digit field as it is sent: the count and the fixed run, the bytes beyond the count 0 (R194). -/
def digitBytes (len : Nat) (d : List Nat) : List Byte := be 1 d.length ++ fillTo len (d.map fun x => BitVec.ofNat 8 x)

/-- DEST: a vacant place as occupied 0 with the rest 0. -/
def destContents : Option Dest → List Byte
  | some d => flag true ++ digitBytes 16 d.digits ++ be 2 d.list ++ be 1 d.mark ++ beOr 2 d.markTimer ++ be 1 d.gap
  | none => flag false ++ digitBytes 16 [] ++ be 2 0 ++ be 1 0 ++ be 2 0 ++ be 1 0

/-- A trigger's four fields, absent ones all ones. -/
def triggerBytes : Trigger → List Byte
  | .manual => beOr 2 none ++ beOr 1 none ++ beOr 1 none ++ beOr 1 none
  | .groupLevel g k => be 2 g ++ be 1 k ++ beOr 1 none ++ beOr 1 none
  | .carrierStanding c st => beOr 2 none ++ beOr 1 none ++ be 1 c ++ be 1 (standingCode st)
  | .recordHigh => beOr 2 none ++ beOr 1 none ++ beOr 1 none ++ beOr 1 none

/-- SLOT: the fields of 5.1 and the state. -/
def slotContents (x : Slot) : List Byte :=
  be 2 x.base ++ be 2 x.substitute ++ be 1 (triggerCode x.trigger) ++ triggerBytes x.trigger ++ be 1 (revertCode x.revert) ++
  be 1 (slotStateCode x.state)

/-- A boundary list as count and entries. -/
def boundaryBytes (l : List (Nat × Nat)) : List Byte := be 1 l.length ++ l.flatMap fun b => be 2 b.1 ++ be 1 b.2

/-- PART, the calendar's share: count, clock, overrides, week table, and the schedules field by field (log 11). DESIGN CHOICE (log 22):
today's override before yesterday's, as table 6.2 lists them; R200 says only "both overrides". -/
def clkContents (c : Clk) : List Byte :=
  be 4 c.count.toNat ++ be 1 (clockCode c.clock) ++ be 1 c.weekday ++ be 3 c.ds ++ flag c.today ++ flag c.yesterday ++
  c.week.toList.flatMap (fun d => be 1 (dayTypeCode d)) ++ be 1 c.work.start ++ be 1 c.rest.start ++
  boundaryBytes c.work.boundaries ++ boundaryBytes c.rest.boundaries

/-- PART, the share of the charge record queue. -/
def sacContents (s : Sac) : List Byte :=
  be 2 s.period ++ be 2 s.records.length ++ be 2 s.guarded ++ be 1 (guardModeCode s.mode) ++ be 2 s.threshold ++ flag s.latch ++
  be 4 s.sequence.toNat

/-- PART, ENU's share: the queue's places, then enables, priorities and routes of kinds 0 to 13, and the elevated kind (log 11,
log 13). -/
def enuContents (e : Enu) : List Byte :=
  be 1 (ordinaryCount e.notices) ++ flag (reservedEntry e.notices).isSome ++ beOr 2 ((reservedEntry e.notices).map Notice.count) ++
  allKinds.flatMap (fun k => flag (e.config k).enable) ++ allKinds.flatMap (fun k => be 1 (e.config k).priority) ++
  allKinds.flatMap (fun k => be 1 (routeCode (e.config k).route)) ++ kindByte e.elevated

/-- PART: every item of R200's row in its order. DESIGN CHOICE (log 22): the three link tallies as bad check, malformed length and
overruns, as R185 lists them; R200 gives no order within the three. -/
def partContents (s : State) : List Byte :=
  clkContents s.clk ++ be 2 s.rse.freeContexts ++ sacContents s.sac ++ enuContents s.enu ++ be 4 s.lnk.badCheck ++
  be 4 s.lnk.malformed ++ be 4 s.lnk.overruns ++ be 1 s.lnk.inbound.length ++ be 1 s.freePlaces

end Sys2Proof.Machine
end

