-- ==== Sys2Proof/Machine/Link.lean ====
section
/-! DEFINITION. LNK (chapter 11): the receiver (R181, R183, R184), the taking of a frame (R186, R187), and the transmitter
(R177, R190, R191). -/

namespace Sys2Proof.Machine

/-! ### The receiver -/

/-- The receiver's next state on a byte that is no delimiter (R181). Before the first delimiter every byte is discarded. -/
def Receiver.byte (r : Receiver) (b : Byte) : Receiver :=
  if !r.synced then r
  else if r.escape then
    if b = 0x85 ∨ b = 0x86 then { r with escape := false, collected := r.collected ++ [b ^^^ 0x20] }
    else { r with escape := false, bad := true }
  else if b = 0xA6 then { r with escape := true }
  else { r with collected := r.collected ++ [b] }

/-- The receiver after a delimiter: collecting the next frame (R181). -/
def Receiver.begun : Receiver := ⟨true, [], false, false⟩

/-- No byte has come since the last delimiter (R181). A bad escape leaves its mark, so a bad frame is not empty. -/
def Receiver.isEmpty (r : Receiver) : Bool := r.collected.isEmpty && !r.escape && !r.bad

/-- Why a complete frame is discarded: by the tests of R183 in their order, up to the check. -/
def frameFault (r : Receiver) : Option LinkCause :=
  let body := r.collected.drop 5
  let len := field r.collected 0 2
  if r.bad || r.escape then some .badCheck
  else if r.collected.length < 7 then some .badCheck
  else if Config.maxBody < len then some .oversize
  else if body.length ≠ len + 2 then some .badCheck
  else if crc (r.collected.take (5 + len)) ≠ BitVec.ofNat 16 (field body len 2) then some .badCheck
  else none

/-- The frame a receiver has collected, with its arrival count (R184, R201). -/
def inFrameOf (arrival : Count) (c : List Byte) : InFrame :=
  { kind := BitVec.ofNat 8 (field c 2 1), tag := BitVec.ofNat 16 (field c 3 2), body := (c.drop 5).take (field c 0 2), arrival }

/-- The tally of a discarded frame counts up, and LINK_TROUBLE is raised (R183, R185). -/
def State.discard (cause : LinkCause) (s : State) : State :=
  let lnk := match cause with
    | .badCheck => { s.lnk with badCheck := tallyUp s.lnk.badCheck }
    | .oversize => { s.lnk with malformed := tallyUp s.lnk.malformed }
    | .overrun => { s.lnk with overruns := tallyUp s.lnk.overruns }
  State.raise (.linkTrouble cause) { s with lnk }

/-- A complete frame is judged: discarded, or appended with its arrival count (R183, R184). -/
def State.judgeFrame (r : Receiver) (s : State) : State :=
  match frameFault r with
  | some cause => s.discard cause
  | none =>
    if Config.inbound ≤ s.lnk.inbound.length then s.discard .overrun
    else { s with lnk := { s.lnk with inbound := s.lnk.inbound ++ [inFrameOf s.clk.count r.collected] } }

/-- The receiver's record. -/
def State.setRx (r : Receiver) (s : State) : State := { s with lnk := { s.lnk with rx := r } }

/-- A delimiter ends the frame being collected, if any, and begins the next (R181). -/
def State.delimiter (s : State) : State :=
  let r := s.lnk.rx
  let s := s.setRx Receiver.begun
  if !r.synced || r.isEmpty then s else s.judgeFrame r

/-- One byte on the receive pair (R181). -/
def State.receive (s : State) (b : Byte) : State :=
  if b = 0xA5 then s.delimiter else s.setRx (s.lnk.rx.byte b)

/-- FRAME_COMPLETE (R183): the bytes since the last delimiter event, and then the closing delimiter (log 16). While the reset
input is asserted nothing is received. -/
def execFrameComplete (wire : List Byte) (s : State) : Host.Outcome State Fault Refusal :=
  .next (match s.lnk.phase with
    | .inReset => s
    | .clearing => (wire.foldl State.receive s).delimiter
    | .running => (wire.foldl State.receive s).delimiter)

/-! ### Taking a frame -/

/-- LNK's own reply to a frame it takes, with no block reached (R187). -/
def State.answerFrame (f : InFrame) (a : Answer) (s : State) : State :=
  { s with lnk := { s.lnk with replies := s.lnk.replies ++ [⟨replyCode f.kind, f.tag, a⟩] } }

/-- TAKE_FRAME (R186, R187): taken when the part runs, no request is handed on and a reply place is free. -/
def execTakeFrame (s : State) : Host.Outcome State Fault Refusal :=
  .next (match s.lnk.inbound with
    | [] => s
    | f :: t =>
      if s.lnk.phase = .running ∧ s.lnk.handed = none ∧ 0 < s.freePlaces then
        let s := { s with lnk := { s.lnk with inbound := t } }
        match judge f.kind f.body with
        | .unknownKind => s.answerFrame f (.unknownKind f.kind)
        | .wrongLength => s.answerFrame f (.badLength f.body.length)
        | .request i => s.withHanded ⟨f.tag, f.arrival, i⟩
      else s)

/-! ### The transmitter -/

/-- An entry's rank when a notice is chosen: the elevated kind 8, another its kind's priority (R177). -/
def Enu.rank (e : Enu) (n : Notice) : Nat :=
  if e.elevated = some n.event.kind then 8 else (e.config n.event.kind).priority

/-- The oldest entry of the highest rank, of a queue that stands in age order (R177). -/
def Enu.pick (e : Enu) : List Notice → Option Notice
  | [] => none
  | n :: t =>
    match e.pick t with
    | none => some n
    | some m => if e.rank n < e.rank m then some m else some n

/-- A notice's frame: kind code 0x7F, tag 0 (R191, R196). -/
def noticeFrame (n : Notice) : Frame := ⟨0x7F, 0, noticeBytes n⟩

/-- A reply's frame (R189). -/
def replyFrame (r : Reply) : Frame := ⟨r.kind, r.tag, answerBytes r.answer⟩

/-- The oldest reply is taken from the FIFO and sent (R189, R190). -/
def State.sendReply (s : State) (r : Reply) (rest : List Reply) (run : Nat) : State :=
  { s with lnk := { s.lnk with replies := rest, sending := some (replyFrame r), replyRun := run } }

/-- A notice is taken from ENU, which removes it, and sent; the reply run goes to 0 (R177, R190). -/
def State.sendNotice (n : Notice) (s : State) : State :=
  { s with
    enu := { s.enu with notices := s.enu.notices.erase n }
    lnk := { s.lnk with sending := some (noticeFrame n), replyRun := 0 } }

/-- The transmitter's choice by R190's table, made when it is free. -/
def State.choose (s : State) : State :=
  match s.enu.pick s.enu.notices, s.lnk.replies with
  | some n, r :: t => if s.lnk.replyRun < Config.replyRunMax then s.sendReply r t (s.lnk.replyRun + 1) else s.sendNotice n
  | some n, [] => s.sendNotice n
  | none, r :: t => s.sendReply r t 0
  | none, [] => s

/-- The choice of an idle transmitter; one that is sending goes on (R190). -/
def State.idleChoice (s : State) : State := if s.lnk.sending = none then s.choose else s

/-- TRANSMITTER_CHOICE (R190), made while the transmitter is idle (log 17). -/
def execTransmitterChoice (s : State) : Host.Outcome State Fault Refusal := .next s.idleChoice

/-- FRAME_SENT (R190): the transmitter becomes free, and chooses the next frame or goes idle. -/
def execFrameSent (s : State) : Host.Outcome State Fault Refusal :=
  .next (if s.lnk.sending = none then s else State.choose { s with lnk := { s.lnk with sending := none } })

end Sys2Proof.Machine
end

