-- ==== Sys2Proof/Machine/Overlays.lean ====
section
/-! DEFINITION. The requests on the overlay slots (chapter 5). -/

namespace Sys2Proof.Machine

/-- The trigger an OVERLAY_SET asks for, or the BAD_FIELD of R91's checks 2 and 3; none when the type is out of its set. -/
def readTrigger (f : OverlayFields) : Option (Answer ⊕ Trigger) :=
  match f.trigger with
  | 0 => some (.inr .manual)
  | 1 =>
    some (match firstBad [(decide (255 < f.group), badField 4), (decide (f.level = 0 ∨ 4 < f.level), badField 5)] with
    | some a => .inl a
    | none => .inr (.groupLevel f.group f.level))
  | 2 =>
    some (if f.carrier = 0 ∨ 63 < f.carrier then .inl (badField 6)
    else match decodeStanding f.standing with
      | some .watch => .inr (.carrierStanding f.carrier .watch)
      | some .suspended => .inr (.carrierStanding f.carrier .suspended)
      | some .normal => .inl (badField 7)
      | none => .inl (badField 7))
  | 3 => some (.inr .recordHigh)
  | _ => none

/-- OVERLAY_SET at its owning block, in R91's order of checks (log 10). -/
def overlaySet (f : OverlayFields) (s : State) : Answer × State :=
  if h : f.slot < 16 then
    match firstBad [(decide (1023 < f.base), badField 1), (decide (1023 < f.substitute), badField 2),
        ((readTrigger f).isNone, badField 3), ((decodeRevert f.revert).isNone, badField 8)] with
    | some a => (a, s)
    | none =>
      match readTrigger f, decodeRevert f.revert with
      | some (.inr trigger), some revert =>
        if s.rse.slots[f.slot].state ≠ .disarmed then (.denied .slotActive, s)
        else (.accepted .plain, s.setSlot ⟨f.slot, h⟩ ⟨f.base, f.substitute, trigger, revert, .disarmed⟩)
      | some (.inl a), _ => (a, s)
      | none, _ => (badField 3, s)
      | some (.inr _), none => (badField 8, s)
  else (badField 0, s)

/-- OVERLAY_SET (R91). -/
def execOverlaySet (f : OverlayFields) (s : State) : Host.Outcome State Fault Refusal :=
  .next (s.serve (.overlaySet f) 0x20 false fun _ => overlaySet f)

/-- The event that the present value of the watched quantity would be, for a trigger whose kind is routed TRIGGER or BOTH
(R92, R95). -/
def presentEvent (s : State) : Trigger → Option Event
  | .manual => none
  | .groupLevel g _ =>
      if s.enu.triggers? .groupLevel then some (.groupLevel g ((s.group? g).map Group.level |>.getD 0)) else none
  | .carrierStanding c _ => if s.enu.triggers? .carrierStanding then some (.carrierStanding c (s.standing c)) else none
  | .recordHigh => if s.enu.triggers? .recordHigh then some (.recordHigh s.sac.latch) else none

/-- The arming test: made for a routed kind, it finds whether the condition holds for the present value (R95). -/
def armingTest (s : State) (t : Trigger) : Bool :=
  match presentEvent s t with
  | some e => (t.holds? e).getD false
  | none => false

/-- A slot request whose reply carries the slot's state before and after (5.3, R199). -/
def onSlot (n : Nat) (f : Fin 16 → Slot → State → Option State) (s : State) : Answer × State :=
  if h : n < 16 then
    match f ⟨n, h⟩ s.rse.slots[n] s with
    | some s' => (.accepted (.slot s.rse.slots[n].state s'.rse.slots[n].state), s')
    | none => (.denied .wrongState, s)
  else (badField 0, s)

/-- Set a slot's state with no event: a change between DISARMED and ARMED (R99). -/
def State.quietSlot (i : Fin 16) (new : SlotState) (s : State) : State := s.setSlot i { s.rse.slots[i] with state := new }

/-- OVERLAY_ARM on a slot (R95). -/
def armSlot (i : Fin 16) (x : Slot) (s : State) : Option State :=
  match x.state with
  | .disarmed =>
      some (if armingTest s x.trigger then s.changeSlot i .active .arm else s.quietSlot i .armed)
  | .armed => some s
  | .active => some s

/-- OVERLAY_FIRE on a slot (R96). -/
def fireSlot (i : Fin 16) (x : Slot) (s : State) : Option State :=
  match x.state with
  | .disarmed => none
  | .armed => some (s.changeSlot i .active .fire)
  | .active => some s

/-- OVERLAY_REVERT on a slot (R97). -/
def revertSlot (i : Fin 16) (x : Slot) (s : State) : Option State :=
  match x.state with
  | .disarmed => none
  | .armed => some s
  | .active => some (s.changeSlot i .armed .revert)

/-- OVERLAY_DISARM on a slot (R98). -/
def disarmSlot (i : Fin 16) (x : Slot) (s : State) : Option State :=
  match x.state with
  | .disarmed => some s
  | .armed => some (s.quietSlot i .disarmed)
  | .active => some (s.changeSlot i .disarmed .disarm)

/-- OVERLAY_ARM (R95). -/
def execOverlayArm (n : Nat) (s : State) : Host.Outcome State Fault Refusal :=
  .next (s.serve (.overlayArm n) 0x21 false fun _ => onSlot n armSlot)

/-- OVERLAY_DISARM (R98). -/
def execOverlayDisarm (n : Nat) (s : State) : Host.Outcome State Fault Refusal :=
  .next (s.serve (.overlayDisarm n) 0x22 false fun _ => onSlot n disarmSlot)

/-- OVERLAY_FIRE (R96). -/
def execOverlayFire (n : Nat) (s : State) : Host.Outcome State Fault Refusal :=
  .next (s.serve (.overlayFire n) 0x23 false fun _ => onSlot n fireSlot)

/-- OVERLAY_REVERT (R97). -/
def execOverlayRevert (n : Nat) (s : State) : Host.Outcome State Fault Refusal :=
  .next (s.serve (.overlayRevert n) 0x24 false fun _ => onSlot n revertSlot)

end Sys2Proof.Machine
end

