-- ==== Sys2Proof/Machine/Power.lean ====
section
/-! DEFINITION. Start-up (11.5): power-on reset, the reset input, and the end of the start-up clear. The queue of commands is the
schedule of steps and not the part's state, so a reset keeps it (log 4). -/

namespace Sys2Proof.Machine

/-- POWER_ON_RESET (R192): every block at its power-on values, and the start-up clear begins (log 5). -/
def execPowerOnReset (s : State) : Host.Outcome State Fault Refusal := .next { State.reset with pending := s.pending }

/-- RESET_INPUT_ASSERTED (R193): everything is lost at once; the start-up clear begins when the input is released (11.6, log 8). -/
def execResetInputAsserted (s : State) : Host.Outcome State Fault Refusal :=
  .next { State.reset with lnk := Lnk.powerOn .inReset, pending := s.pending }

/-- The part runs (R192). -/
def State.run (s : State) : State := { s with lnk := { s.lnk with phase := .running } }

/-- START_UP_CLEAR_END (R115, R179, R192): LNK raises STARTUP with the monotonic count, and the idle transmitter chooses it at once,
so STARTUP is being sent before any request is taken. -/
def execStartUpClearEnd (s : State) : Host.Outcome State Fault Refusal :=
  .next (match s.lnk.phase with
    | .clearing => (s.run.raise (.startup s.clk.count)).idleChoice
    | .inReset => s
    | .running => s)

end Sys2Proof.Machine
end

