-- ==== Sys2Proof/Machine/Query.lean ====
section
/-! DEFINITION. QUERY (12.4). -/

namespace Sys2Proof.Machine

/-- An accepted QUERY with its contents. -/
def contents (b : List Byte) : Answer := .accepted (.contents b)

/-- A QUERY of the part; the clear flag clears the link tallies after they are read (R185, R200). -/
def queryPart (clear : Nat) (s : State) : Answer × State :=
  match decodeFlag clear with
  | none => (badField 3, s)
  | some c =>
    (contents (partContents s),
      if c then { s with lnk := { s.lnk with badCheck := 0, malformed := 0, overruns := 0 } } else s)

/-- A QUERY of a group; the clear flag clears its six tallies after they are read (R8, R200). -/
def queryGroup (number clear : Nat) (s : State) : Answer × State :=
  if 255 < number then (badField 1, s)
  else match decodeFlag clear with
    | none => (badField 3, s)
    | some c =>
      (contents (groupContents (s.group? number)),
        if c then s.countTally number (fun _ => Tallies.zero) else s)

/-- A QUERY of a circuit (R200). -/
def queryCircuit (number member : Nat) (s : State) : Answer :=
  match s.group? number with
  | none => badField 1
  | some r =>
    match r.members[member]? with
    | none => badField 2
    | some c => contents (circuitContents c)

/-- QUERY at its owning block (R200). -/
def query (target number member clear : Nat) (s : State) : Answer × State :=
  match decodeTarget target with
  | none => (badField 0, s)
  | some .part => queryPart clear s
  | some .group => queryGroup number clear s
  | some .circuit => (queryCircuit number member s, s)
  | some .context => (if 4095 < number then badField 1 else contents (contextContents (s.context? number)), s)
  | some .carrier =>
      (match carrierIndex number with
      | none => badField 1
      | some i => contents (carrierContents s i), s)
  | some .dest => (if 4095 < number then badField 1 else contents (destContents (s.dest? number)), s)
  | some .slot => (if h : number < 16 then contents (slotContents s.rse.slots[number]) else badField 1, s)

/-- QUERY (R200); answered during a sweep too (R46). -/
def execQuery (target number member clear : Nat) (s : State) : Host.Outcome State Fault Refusal :=
  .next (s.serve (.query target number member clear) 0x48 true fun _ => query target number member clear)

end Sys2Proof.Machine
end

