-- ==== Sys2Proof/Machine/Restart.lean ====
section
/-! DEFINITION. TRAFFIC_RESTART and its sweep (2.8, R27, R89, R103, R180): the start, the visit of one context, the completion. -/

namespace Sys2Proof.Machine

/-- A circuit whose seize timer is stopped (R15, R47). -/
def Circuit.stopSeize (c : Circuit) : Circuit := { c with seizeTimer := none }

/-- Change every group's record. -/
def State.mapGroups (f : Group → Group) (s : State) : State := { s with ctb := ⟨tmap f s.ctb.groups⟩ }

/-- Every seize timer in the part is stopped (R47). -/
def State.stopSeizeTimers (s : State) : State :=
  s.mapGroups fun r => { r with members := r.members.map Circuit.stopSeize }

/-- The sweep begins: its reply place stays reserved for it (R46, R188). -/
def State.startSweep (h : Handed) (s : State) : State :=
  { s.stopSeizeTimers with
    lnk := { s.lnk with handed := none }
    rse := { s.rse with sweep := some ⟨h.tag, h.arrival, 0, 0, 0⟩ } }

/-- TRAFFIC_RESTART (R46): taken when no sweep runs, refused with RESTARTING otherwise; its reply is placed at completion. -/
def execTrafficRestart (s : State) : Host.Outcome State Fault Refusal :=
  .next (match s.takes? .trafficRestart with
    | none => s
    | some h =>
      if s.sweeping then (s.withHanded h).place 0x49 h.tag (.denied .restarting)
      else (s.withHanded h).startSweep h)

/-- A leg's circuit goes to IDLE in the step in which the sweep frees its context, with the drain test (R27, R47). -/
def State.sweepCircuit (g m : Nat) (s : State) : State :=
  match s.circuit? g m with
  | some c => if c.state.isBusy then (s.setCircuit g m Circuit.fresh).drainTest g else s
  | none => s

/-- The circuits of a context's legs go to IDLE, the in-leg's first. DESIGN CHOICE (log 20): R27 and R47 give no order, and it orders the
events of R21 when the groups of both legs are DRAINING. -/
def State.sweepLegs (c : Context) (s : State) : State :=
  let s := s.sweepCircuit c.inLeg.group c.inLeg.member
  match c.outLeg with
  | some o => s.sweepCircuit o.group o.member
  | none => s

/-- The sweep's record. -/
def State.setSweep (w : Option Sweep) (s : State) : State := { s with rse := { s.rse with sweep := w } }

/-- The sweep visits a context that holds a call: its legs rated with RESTART_CUT or counted unanswered, the context freed and its
circuits IDLE (R47). -/
def State.visit (w : Sweep) (c : Context) (s : State) : State :=
  (((s.endLegs c w.instant true).2).freeContext w.next).sweepLegs c

/-- The counts after a visit (R48). -/
def Sweep.counted (c : Context) (w : Sweep) : Sweep :=
  if c.state = .answered then { w with next := w.next + 1, rated := w.rated + 1 }
  else { w with next := w.next + 1, freed := w.freed + 1 }

/-- SWEEP_CONTEXT_VISIT (R47): the running sweep visits the next context; there is none to visit after 4,095. -/
def execSweepContextVisit (s : State) : Host.Outcome State Fault Refusal :=
  .next (match s.rse.sweep with
    | none => s
    | some w =>
      if w.next < Config.contexts then
        match s.context? w.next with
        | none => s.setSweep (some { w with next := w.next + 1 })
        | some c => (s.visit w c).setSweep (some (w.counted c))
      else s)

/-- A circuit after the sweep: IDLE unless BLOCKED (R27). -/
def Circuit.swept (c : Circuit) : Circuit := if c.state = .blocked then c else Circuit.fresh

/-- A group after the sweep: circuits by R27, IN_SERVICE or BLOCKED, score 0, sample timer restarted or stopped (R27, R89). -/
def Group.swept (r : Group) : Group :=
  let on := r.state == .inService
  { r with
    members := r.members.map Circuit.swept
    state := if on then .inService else .blocked
    score := 0
    sampleTimer := if on then some r.sampleInterval else none }

/-- A destination after the sweep: no mark, gap counter 0 (R89). -/
def Dest.swept (d : Dest) : Dest := { d with mark := 0, markTimer := none, gap := 0 }

/-- A slot after the sweep: ACTIVE returns to ARMED unless its trigger is MANUAL (R103). -/
def Slot.swept (x : Slot) : Slot :=
  if x.state = .active ∧ x.trigger ≠ .manual then { x with state := .armed } else x

/-- The restart values of the other blocks (R27, R89, R103), and the notice queue emptied (R180). -/
def State.restartValues (s : State) : State :=
  { s.mapGroups Group.swept with
    rse := { s.rse with dests := tmap Dest.swept s.rse.dests, slots := s.rse.slots.map Slot.swept, sweep := none }
    enu := { s.enu with notices := [] } }

/-- The sweep's completion (R48, R180): the restart values, RESTART_DONE raised into the emptied queue, and the reply to
TRAFFIC_RESTART in its reserved place. -/
def State.completeSweep (w : Sweep) (s : State) : State :=
  let s := s.restartValues.raise (.restartDone w.rated w.freed)
  { s with lnk := { s.lnk with
      replies := s.lnk.replies ++ [⟨replyCode 0x49, w.tag, .accepted (.restarted w.rated w.freed)⟩] } }

/-- SWEEP_COMPLETION (R48): once every context is visited. A request taken before the completion is answered before it (R188), so
there is no completion while one is handed on. -/
def execSweepCompletion (s : State) : Host.Outcome State Fault Refusal :=
  .next (match s.rse.sweep, s.lnk.handed with
    | some w, none => if w.next < Config.contexts then s else s.completeSweep w
    | some _, some _ => s
    | none, _ => s)

end Sys2Proof.Machine
end

