-- ==== Sys2Proof/Machine/Routes.lean ====
section
/-! DEFINITION. The requests on the routing tables: DEST_SET, DEST_CLEAR, LIST_SET (chapter 3) and FAR_MARK (chapter 4). -/

namespace Sys2Proof.Machine

/-- The occupied entry with exactly these digits, if any (R50, R81). -/
def exactDest (digits : List Nat) : Table Dest → Option (Nat × Dest)
  | [] => none
  | (i, d) :: t => if d.digits = digits then some (i, d) else exactDest digits t

/-- DEST_SET at its owning block (R50). -/
def destSet (digits : DigitField) (list : Nat) (s : State) : Answer × State :=
  match readDigits 16 digits with
  | none => (badField 0, s)
  | some ds =>
    if 1023 < list then (badField 1, s)
    else match exactDest ds s.rse.dests with
      | some (i, d) => (.accepted (.dest i), s.setDest i { d with list })
      | none =>
        match lowestFree s.rse.dests Config.dests 0 with
        | some i => (.accepted (.dest i), s.setDest i ⟨ds, list, 0, none, 0⟩)
        | none => (.denied .tableFull, s)

/-- DEST_SET (R50). -/
def execDestSet (digits : DigitField) (list : Nat) (s : State) : Host.Outcome State Fault Refusal :=
  .next (s.serve (.destSet digits list) 0x18 false fun _ => destSet digits list)

/-- A place of the destination table becomes vacant (R51). -/
def State.clearDest (i : Nat) (s : State) : State := { s with rse := { s.rse with dests := tdel s.rse.dests i } }

/-- DEST_CLEAR at its owning block (R51). -/
def destClear (digits : DigitField) (s : State) : Answer × State :=
  match readDigits 16 digits with
  | none => (badField 0, s)
  | some ds =>
    match exactDest ds s.rse.dests with
    | some (i, _) => (.accepted (.dest i), s.clearDest i)
    | none => (.selection none .noRoute, s)

/-- DEST_CLEAR (R51). -/
def execDestClear (digits : DigitField) (s : State) : Host.Outcome State Fault Refusal :=
  .next (s.serve (.destClear digits) 0x19 false fun _ => destClear digits)

/-- LIST_SET at its owning block (R53). -/
def listSet (list : Nat) (entries : List (Nat × Nat)) (s : State) : Answer × State :=
  match firstBad [(decide (1023 < list), badField 0), (decide (entries.length = 0 ∨ 8 < entries.length), badField 1)] with
  | some a => (a, s)
  | none =>
    match badRouteEntry 0 entries with
    | some a => (a, s)
    | none =>
      (.accepted .plain,
        { s with rse := { s.rse with lists := tput s.rse.lists list (entries.map fun e => ⟨e.1, e.2⟩) } })

/-- LIST_SET (R53). -/
def execListSet (list : Nat) (entries : List (Nat × Nat)) (s : State) : Host.Outcome State Fault Refusal :=
  .next (s.serve (.listSet list entries) 0x1A false fun _ => listSet list entries)

/-- A destination's mark after an accepted FAR_MARK: cleared by level 0, set or refreshed by 1 or 2 (R82, R83). -/
def Dest.marked (level duration : Nat) (d : Dest) : Dest :=
  if level = 0 then { d with mark := 0, markTimer := none }
  else { d with mark := level, markTimer := some (clamp 50 600 duration), gap := if d.mark = 0 then 0 else d.gap }

/-- FAR_MARK at its owning block (R81 to R83). -/
def farMark (digits : DigitField) (level duration : Nat) (s : State) : Answer × State :=
  match readDigits 16 digits with
  | none => (badField 0, s)
  | some ds =>
    if 2 < level then (badField 1, s)
    else match exactDest ds s.rse.dests with
      | none => (.selection none .noRoute, s)
      | some (i, d) => (.accepted (.marked i d.mark), s.setDest i (d.marked level duration))

/-- FAR_MARK (R81). -/
def execFarMark (digits : DigitField) (level duration : Nat) (s : State) : Host.Outcome State Fault Refusal :=
  .next (s.serve (.farMark digits level duration) 0x08 false fun _ => farMark digits level duration)

end Sys2Proof.Machine
end

