-- ==== Sys2Proof/Machine/Tariffs.lean ====
section
/-! DEFINITION. The requests on tariffs, calendar and clock (chapters 6 and 7): TARIFF_SET, CALENDAR_SET, WEEK_SET, TIME_SET. -/

namespace Sys2Proof.Machine

/-- The increments a tariff may hold (table 7.1). -/
def increments : List Nat := [1, 6, 10, 30, 60]

/-- The entry an accepted TARIFF_SET stores: clamped, and the generation +1, from 65,535 to 0 (R118). -/
def newTariff (f : TariffFields) (old : Tariff) : Tariff :=
  { rates := f.rates, fee := f.fee, minimum := clamp 0 600 f.minimum, increment := f.increment,
    factors := f.factors.map (clamp 50 400), cap := f.cap, generation := (old.generation + 1) % 65536 }

/-- TARIFF_SET at its owning block, in R117's order of checks. -/
def tariffSet (f : TariffFields) (s : State) : Answer × State :=
  match carrierIndex f.carrier, decodeLegDir f.direction with
  | none, _ => (badField 0, s)
  | some _, none => (badField 1, s)
  | some i, some d =>
    if f.increment ∉ increments then (badField 36, s)
    else if (s.sac.carriers[i].account d).locked then (.denied .tariffLocked, s)
    else
      let t := newTariff f (s.rte.tariff d i)
      (.accepted (.tariff t.generation t.minimum t.factors), s.setTariff d i t)

/-- TARIFF_SET (R117). -/
def execTariffSet (f : TariffFields) (s : State) : Host.Outcome State Fault Refusal :=
  .next (s.serve (.tariffSet f) 0x28 false fun _ => tariffSet f)

/-- Replace a day type's schedule (R110). -/
def Clk.setSchedule (t : DayType) (x : Schedule) (c : Clk) : Clk :=
  match t with
  | .work => { c with work := x }
  | .rest => { c with rest := x }

/-- CALENDAR_SET at its owning block (R110). -/
def calendarSet (dayType start : Nat) (boundaries : List (Nat × Nat)) (s : State) : Answer × State :=
  match decodeDayType dayType with
  | none => (badField 0, s)
  | some t =>
    match firstBad [(decide (3 < start), badField 1), (decide (7 < boundaries.length), badField 2)] with
    | some a => (a, s)
    | none =>
      match badBoundary 0 0 boundaries with
      | some a => (a, s)
      | none => (.accepted .plain, { s with clk := s.clk.setSchedule t ⟨start, boundaries⟩ })

/-- CALENDAR_SET (R110). -/
def execCalendarSet (dayType start : Nat) (boundaries : List (Nat × Nat)) (s : State) : Host.Outcome State Fault Refusal :=
  .next (s.serve (.calendarSet dayType start boundaries) 0x29 false fun _ => calendarSet dayType start boundaries)

/-- WEEK_SET at its owning block (R111). -/
def weekSet (days : Vector Nat 7) (s : State) : Answer × State :=
  match badDay days.toList with
  | some a => (a, s)
  | none =>
    (.accepted .plain, { s with clk := { s.clk with week := days.map fun d => (decodeDayType d).getD .work } })

/-- WEEK_SET (R111). -/
def execWeekSet (days : Vector Nat 7) (s : State) : Host.Outcome State Fault Refusal :=
  .next (s.serve (.weekSet days) 0x2A false fun _ => weekSet days)

/-- The calendar after an accepted TIME_SET; a midnight still due is not counted (R107). -/
def Clk.setTime (weekday ds : Nat) (rest : Bool) (c : Clk) : Clk :=
  { c with
    yesterday := if weekday = c.weekday then c.yesterday else false
    weekday, ds, today := rest, clock := .set, midnightDue := false }

/-- TIME_SET at its owning block (R107). -/
def timeSet (weekday ds restFlag : Nat) (s : State) : Answer × State :=
  match firstBad [(decide (6 < weekday), badField 0), (decide (863999 < ds), badField 1),
      ((decodeFlag restFlag).isNone, badField 2)] with
  | some a => (a, s)
  | none =>
    (.accepted (.time s.clk.clock s.clk.weekday s.clk.ds),
      { s with clk := s.clk.setTime weekday ds ((decodeFlag restFlag).getD false) })

/-- TIME_SET (R107). -/
def execTimeSet (weekday ds restFlag : Nat) (s : State) : Host.Outcome State Fault Refusal :=
  .next (s.serve (.timeSet weekday ds restFlag) 0x2B false fun _ => timeSet weekday ds restFlag)

end Sys2Proof.Machine
end

