-- ==== Sys2Proof/Machine/Timers.lean ====
section
/-! DEFINITION. The timer steps: the four expiries (R14, R16, R74, R84), the midnight rollover (R106) and the end of a decisecond
(R104, R105). An expiry takes place when its timer has run out (log 2, log 6). -/

namespace Sys2Proof.Machine

/-- GUARD_TIMER_EXPIRY (R14): a circuit in GUARD whose timer has run out goes to IDLE. -/
def execGuardTimerExpiry (g m : Nat) (s : State) : Host.Outcome State Fault Refusal :=
  .next (match s.circuit? g m with
    | some c => if c.state = .guard ∧ c.guardTimer = some 0 then s.setCircuit g m Circuit.fresh else s
    | none => s)

/-- The context that held a timed-out circuit: its out-leg settled and removed, HALTED with TIMEOUT at the next entry (R40). -/
def State.timeoutContext (n : Nat) (s : State) : State :=
  match s.context? n with
  | none => s
  | some c =>
    match c.outLeg with
    | none => s
    | some o => (s.settleGuard o.guarded).setContext n (c.halt .timeout (some (o.entry + 1)))

/-- SEIZE_TIMER_EXPIRY (R16): an OUT_PENDING circuit whose seize timer has run out: ordinary release, the context HALTED, the
timeouts tally, CIRCUIT_TROUBLE. -/
def execSeizeTimerExpiry (g m : Nat) (s : State) : Host.Outcome State Fault Refusal :=
  .next (match s.circuit? g m with
    | some c =>
      if c.state = .outPending ∧ c.seizeTimer = some 0 then
        let s := s.ordinaryRelease g m
        let s := match c.context with
          | some n => s.timeoutContext n
          | none => s
        (s.countTally g fun t => { t with timeouts := tallyUp t.timeouts }).raise (.circuitTrouble g m .timeout)
      else s
    | none => s)

/-- The score after a sample (R74). -/
def Group.sampled (r : Group) : Nat := if r.loadThreshold ≤ r.busy then min (r.score + 1) 15 else r.score - 1

/-- SAMPLE_TIMER_EXPIRY (R74): the score moves by the busy count against the load threshold, and the timer is reloaded. -/
def execSampleTimerExpiry (g : Nat) (s : State) : Host.Outcome State Fault Refusal :=
  .next (match s.group? g with
    | some r =>
      if r.sampleTimer = some 0 then
        (s.setGroup g { r with sampleTimer := some r.sampleInterval }).setScore g r.sampled
      else s
    | none => s)

/-- MARK_EXPIRY (R84): a destination's mark whose timer has run out is cleared and FAR_MARK_EXPIRED raised. -/
def execMarkExpiry (i : Nat) (s : State) : Host.Outcome State Fault Refusal :=
  .next (match s.dest? i with
    | some d =>
      if d.markTimer = some 0 then (s.setDest i { d with mark := 0, markTimer := none }).raise (.farMarkExpired i d.mark)
      else s
    | none => s)

/-- MIDNIGHT_ROLLOVER (R106): taken when the ds of day has passed 863,999. -/
def execMidnightRollover (s : State) : Host.Outcome State Fault Refusal :=
  .next (if s.clk.midnightDue then { s with clk := s.clk.rollOver } else s)

/-- A running timer counts down one decisecond; at 0 it has run out (log 6). -/
def timerDown (t : Option Nat) : Option Nat := t.map (· - 1)

/-- A circuit's timers count down. -/
def Circuit.tick (c : Circuit) : Circuit :=
  { c with guardTimer := timerDown c.guardTimer, seizeTimer := timerDown c.seizeTimer }

/-- A group's sample timer and its circuits' timers count down. -/
def Group.tick (r : Group) : Group :=
  { r with members := r.members.map Circuit.tick, sampleTimer := timerDown r.sampleTimer }

/-- A destination's mark timer counts down. -/
def Dest.tick (d : Dest) : Dest := { d with markTimer := timerDown d.markTimer }

/-- One decisecond passes for the count, the calendar and every running timer (R104, R105). -/
def State.tick (s : State) : State :=
  { s with
    clk := s.clk.advance
    ctb := ⟨tmap Group.tick s.ctb.groups⟩
    rse := { s.rse with dests := tmap Dest.tick s.rse.dests } }

/-- END_OF_DECISECOND (R104, R105). The count runs from the moment the part leaves power-on reset, so none passes while the reset
input is asserted. -/
def execEndOfDecisecond (s : State) : Host.Outcome State Fault Refusal :=
  .next (match s.lnk.phase with
    | .inReset => s
    | .clearing => s.tick
    | .running => s.tick)

end Sys2Proof.Machine
end

