-- ==== Sys2Proof/Machine/Dispatch.lean ====
section
/-! DEFINITION. The command table: one arm per constructor of `Instr`, each one call of that command's meaning. -/

namespace Sys2Proof.Machine

def exec (i : Instr) (s : State) : Host.Outcome State Fault Refusal :=
  match i with
  | .seizeIn group member callRef priority => Sys2Proof.Machine.execSeizeIn group member callRef priority s
  | .route context budget called => Sys2Proof.Machine.execRoute context budget called s
  | .continueCall context => Sys2Proof.Machine.execContinue context s
  | .confirm context group member => Sys2Proof.Machine.execConfirm context group member s
  | .failCall context group member cause continueFlag => Sys2Proof.Machine.execFail context group member cause continueFlag s
  | .answer context => Sys2Proof.Machine.execAnswer context s
  | .release context => Sys2Proof.Machine.execRelease context s
  | .farMark digits level duration => Sys2Proof.Machine.execFarMark digits level duration s
  | .groupDefine fields => Sys2Proof.Machine.execGroupDefine fields s
  | .groupBlock group => Sys2Proof.Machine.execGroupBlock group s
  | .groupUnblock group => Sys2Proof.Machine.execGroupUnblock group s
  | .circuitBlock group member => Sys2Proof.Machine.execCircuitBlock group member s
  | .circuitUnblock group member => Sys2Proof.Machine.execCircuitUnblock group member s
  | .destSet digits list => Sys2Proof.Machine.execDestSet digits list s
  | .destClear digits => Sys2Proof.Machine.execDestClear digits s
  | .listSet list entries => Sys2Proof.Machine.execListSet list entries s
  | .overlaySet fields => Sys2Proof.Machine.execOverlaySet fields s
  | .overlayArm slot => Sys2Proof.Machine.execOverlayArm slot s
  | .overlayDisarm slot => Sys2Proof.Machine.execOverlayDisarm slot s
  | .overlayFire slot => Sys2Proof.Machine.execOverlayFire slot s
  | .overlayRevert slot => Sys2Proof.Machine.execOverlayRevert slot s
  | .tariffSet fields => Sys2Proof.Machine.execTariffSet fields s
  | .calendarSet dayType start boundaries => Sys2Proof.Machine.execCalendarSet dayType start boundaries s
  | .weekSet days => Sys2Proof.Machine.execWeekSet days s
  | .timeSet weekday ds restFlag => Sys2Proof.Machine.execTimeSet weekday ds restFlag s
  | .carrierLimits carrier watch cap => Sys2Proof.Machine.execCarrierLimits carrier watch cap s
  | .carrierBar carrier flag => Sys2Proof.Machine.execCarrierBar carrier flag s
  | .guardMode mode threshold => Sys2Proof.Machine.execGuardMode mode threshold s
  | .eventConfig mode mask elevated entries => Sys2Proof.Machine.execEventConfig mode mask elevated entries s
  | .periodClose carrier => Sys2Proof.Machine.execPeriodClose carrier s
  | .recordsFetch count => Sys2Proof.Machine.execRecordsFetch count s
  | .query target number member clear => Sys2Proof.Machine.execQuery target number member clear s
  | .trafficRestart => Sys2Proof.Machine.execTrafficRestart s
  | .sweepContextVisit => Sys2Proof.Machine.execSweepContextVisit s
  | .sweepCompletion => Sys2Proof.Machine.execSweepCompletion s
  | .guardTimerExpiry group member => Sys2Proof.Machine.execGuardTimerExpiry group member s
  | .seizeTimerExpiry group member => Sys2Proof.Machine.execSeizeTimerExpiry group member s
  | .sampleTimerExpiry group => Sys2Proof.Machine.execSampleTimerExpiry group s
  | .markExpiry index => Sys2Proof.Machine.execMarkExpiry index s
  | .midnightRollover => Sys2Proof.Machine.execMidnightRollover s
  | .frameComplete wire => Sys2Proof.Machine.execFrameComplete wire s
  | .takeFrame => Sys2Proof.Machine.execTakeFrame s
  | .transmitterChoice => Sys2Proof.Machine.execTransmitterChoice s
  | .powerOnReset => Sys2Proof.Machine.execPowerOnReset s
  | .resetInputAsserted => Sys2Proof.Machine.execResetInputAsserted s
  | .startUpClearEnd => Sys2Proof.Machine.execStartUpClearEnd s
  | .endOfDecisecond => Sys2Proof.Machine.execEndOfDecisecond s
  | .frameSent => Sys2Proof.Machine.execFrameSent s

end Sys2Proof.Machine
end

