-- ==== Sys2Proof/Safety.lean ====
section
/-! DEFINITION. What the statements speak of: when a request is taken, what its reply leaves of LNK, and the invariants a step
keeps (R2, R6, R20, R21, R31, R72, R73, R145, R148, R157, R161, R174). -/

namespace Sys2Proof.Machine

/-! ### Taking a request -/

/-- The request command `c` is carried out now, for the request `h`, and no sweep runs (R46, R186, R188). -/
def Taken (s : State) (c : Instr) (h : Handed) : Prop := s.takes? c = some h ∧ s.sweeping = false

/-- LNK after a request's reply is placed: one reply more, no request handed on, nothing else changed (R186, R188). -/
def Lnk.answered (l : Lnk) (code : Byte) (tag : BitVec 16) (a : Answer) : Lnk :=
  { l with handed := none, replies := l.replies ++ [⟨replyCode code, tag, a⟩] }

/-- What a request that only touches CTB leaves alone. -/
def SameOutsideCtb (s t : State) : Prop :=
  t.rse = s.rse ∧ t.clk = s.clk ∧ t.rte = s.rte ∧ t.sac = s.sac ∧ t.enu = s.enu ∧ t.pending = s.pending

/-- The clock, the tariffs, ENU and the command queue are as they were. -/
def SameServices (s t : State) : Prop := t.clk = s.clk ∧ t.rte = s.rte ∧ t.enu = s.enu ∧ t.pending = s.pending

/-- The route lists, the overlay slots and the sweep are as they were. -/
def SameRoutes (s t : State) : Prop := t.rse.lists = s.rse.lists ∧ t.rse.slots = s.rse.slots ∧ t.rse.sweep = s.rse.sweep

/-- Two states differ at most in the notice queue and in the overlay slots' states: all that raising an event can change (R173). -/
def OnlyEvents (s t : State) : Prop :=
  ∃ (slots : Vector Slot 16) (notices : List Notice),
    (∀ i : Fin 16, slots[i] = { s.rse.slots[i] with state := slots[i].state }) ∧
    t = { s with rse := { s.rse with slots }, enu := { s.enu with notices } }

/-- Every group but `g` is as it was. -/
def OtherGroups (g : Nat) (s t : State) : Prop := ∀ k, k ≠ g → t.group? k = s.group? k

/-- Every context but `n` is as it was. -/
def OtherContexts (n : Nat) (s t : State) : Prop := ∀ k, k ≠ n → t.context? k = s.context? k

/-- Every destination place but `i` is as it was. -/
def OtherDests (i : Nat) (s t : State) : Prop := ∀ k, k ≠ i → t.dest? k = s.dest? k

/-- The lowest-numbered FREE context (R28). -/
def LowestFree (s : State) (n : Nat) : Prop := n < Config.contexts ∧ s.context? n = none ∧ ∀ k, k < n → s.context? k ≠ none

/-- A leg on a carrier can be admitted: it is not guarded, or record room exists (R157, R160). -/
def Admits (s : State) (carrier : Nat) : Prop :=
  s.guards carrier = true → s.sac.records.length + s.sac.guarded < Config.records

/-- SAC after an admission: the guarded count takes +1 for a guarded leg (R160). -/
def Sac.admitted (x : Sac) (guarded : Bool) : Sac := { x with guarded := if guarded then x.guarded + 1 else x.guarded }

/-- SAC after a leg ends without a record: the guarded count takes -1 for a guarded leg (R161). -/
def Sac.settled (x : Sac) (guarded : Bool) : Sac := { x with guarded := if guarded then x.guarded - 1 else x.guarded }

/-- A busy circuit after an ordinary release: BLOCKED when block pending, else GUARD for the group's guard time, or IDLE when that is
0 (R12). -/
def releasedAs (r : Group) (c : Circuit) : Circuit :=
  if c.blockPending = true then ⟨.blocked, false, false, none, none, none⟩
  else if 0 < r.guardTime then ⟨.guard, false, false, none, some r.guardTime, none⟩
  else ⟨.idle, false, false, none, none, none⟩

/-- The condition of a trigger as OVERLAY_ARM tests it, for a kind routed TRIGGER or BOTH, against the present value (R92, R95). -/
def conditionHolds (s : State) : Trigger → Bool
  | .manual => false
  | .groupLevel g k =>
      (s.enu.config .groupLevel).route != .notice && decide (k ≤ (match s.group? g with | some r => r.level | none => 0))
  | .carrierStanding c st =>
      (s.enu.config .carrierStanding).route != .notice && decide (standingCode st ≤ standingCode (s.standing c))
  | .recordHigh => (s.enu.config .recordHigh).route != .notice && s.sac.latch

/-- What an overlay request makes of a slot's state, with its kind code and the cause an OVERLAY event of it would carry; none when
it is refused with WRONG_STATE (R95 to R99). -/
def slotAfter (c : Instr) (holds : Bool) (x : SlotState) : Option (Byte × OverlayCause × SlotState) :=
  match c, x with
  | .overlayArm _, .disarmed => some (0x21, .arm, if holds then .active else .armed)
  | .overlayArm _, x => some (0x21, .arm, x)
  | .overlayDisarm _, _ => some (0x22, .disarm, .disarmed)
  | .overlayFire _, .disarmed => none
  | .overlayFire _, _ => some (0x23, .fire, .active)
  | .overlayRevert _, .disarmed => none
  | .overlayRevert _, _ => some (0x24, .revert, .armed)
  | _, _ => none

/-- An account after its close at settlement period P (R151, R153). -/
def closedAt (period : Nat) (a : Account) : Account :=
  ⟨0, false, 0, 0, 0, 0, false, (period + 1) % 65536,
    some ⟨a.total, a.saturated, a.billed, a.answered, a.unanswered, a.lost, a.openedAt, period⟩⟩

/-- A carrier after the close of its accounts: NORMAL, or SUSPENDED when barred (R145, R151). -/
def carrierClosedAt (period : Nat) (c : Carrier) : Carrier :=
  { c with
    outAccount := closedAt period c.outAccount, inAccount := closedAt period c.inAccount
    standing := if c.barred then .suspended else .normal }

/-- The latch after its test (R165). -/
def latchAfter (latch : Bool) (fill threshold : Nat) : Bool :=
  if latch = true then decide (threshold - 64 < fill) else decide (threshold ≤ fill)

/-! ### Releases and rated legs -/

/-- A group after a release of one of its circuits: a DRAINING group with no busy circuit left enters BLOCKED, with score 0 and its
sample timer stopped (R20, R21). -/
def drainedAs (r : Group) : Group :=
  if r.state = .draining ∧ r.busy = 0 then { r with state := .blocked, score := 0, sampleTimer := none } else r

/-- The events of that entry into BLOCKED: GROUP_LEVEL when the level changes, then GROUP_DRAINED (R21). -/
def State.drainEvents (g : Nat) (r : Group) (s : State) : State :=
  if r.state = .draining ∧ r.busy = 0 then
    (if r.level = 0 then s else s.raise (.groupLevel g 0)).raise (.groupDrained g)
  else s

/-- The notices and the slots are those that the events of another state leave. -/
def SameEvents (s t : State) : Prop := t.enu = s.enu ∧ t.rse.slots = s.rse.slots

/-- The event of a re-evaluation: CARRIER_STANDING with the new standing, when it differs from the old (R146). -/
def State.standingEvents (i : Fin 63) (old new : Standing) (s : State) : State :=
  if new = old then s else s.raise (.carrierStanding (i.val + 1) new)

/-- The event of a latch test: RECORD_HIGH with the latch's new value, when it moves (R165). -/
def State.latchEvents (old new : Bool) (s : State) : State := if new = old then s else s.raise (.recordHigh new)

/-- The busy circuits of a context's legs leave their busy states, the in-leg's first, each into what `ended` makes of it in its group
(R12, R27), and each group is tested for the end of a drain (R20, R21). The events that follow those of `u` are the drains', then
those of `later`. The order in the sweep is log 20's. -/
def LegsEnded (ended : Group → Circuit → Circuit) (x : Context) (u : State) (later : State → State) (s t : State) : Prop :=
  ∀ (r : Group) (c : Circuit), s.group? x.inLeg.group = some r → r.members[x.inLeg.member]? = some c → c.state.isBusy = true →
    let after : Group := { r with members := r.members.set x.inLeg.member (ended r c) }
    (x.outLeg = none →
      t.group? x.inLeg.group = some (drainedAs after) ∧ OtherGroups x.inLeg.group s t ∧
      SameEvents (later (u.drainEvents x.inLeg.group after)) t) ∧
    ∀ (o : OutLeg) (r' : Group) (c' : Circuit), x.outLeg = some o →
      (if o.group = x.inLeg.group then some (drainedAs after) else s.group? o.group) = some r' →
      r'.members[o.member]? = some c' → c'.state.isBusy = true →
      let after' : Group := { r' with members := r'.members.set o.member (ended r' c') }
      t.group? o.group = some (drainedAs after') ∧
      (o.group ≠ x.inLeg.group → t.group? x.inLeg.group = some (drainedAs after)) ∧
      (∀ g, g ≠ x.inLeg.group → g ≠ o.group → t.group? g = s.group? g) ∧
      SameEvents (later ((u.drainEvents x.inLeg.group after).drainEvents o.group after')) t

/-- Every group that no leg of the context stands in is as it was. -/
def GroupsBeside (x : Context) (s t : State) : Prop :=
  ∀ g, g ≠ x.inLeg.group → (∀ o, x.outLeg = some o → g ≠ o.group) → t.group? g = s.group? g

/-- The carrier that a leg of a context is on, if the leg is there and chargeable (R44). -/
def Context.carrierOn (x : Context) : LegDir → Option (Fin 63)
  | .inLeg => carrierIndex x.inLeg.carrier
  | .outLeg => x.outLeg.bind fun o => carrierIndex o.carrier

/-- The RELEASE reply's entries for legs that end unanswered (R45, R199). -/
def Context.unansweredEntries (x : Context) : List LegReply :=
  [LegDir.inLeg, .outLeg].filterMap fun d => (x.carrierOn d).map fun i => ⟨d, i.val + 1, .unanswered⟩

/-- SAC after the legs of a context end unanswered: each chargeable leg is counted in its account, and a guarded one gives its place
back (R45, R142, R161). -/
def EndedUnanswered (x : Context) (s t : State) : Prop :=
  (∀ (i : Fin 63) (d : LegDir), t.sac.carriers[i].account d =
    { s.sac.carriers[i].account d with
      unanswered := if x.carrierOn d = some i then min ((s.sac.carriers[i].account d).unanswered + 1) 4294967295
        else (s.sac.carriers[i].account d).unanswered }) ∧
  t.sac = { s.sac with
    carriers := t.sac.carriers
    guarded := s.sac.guarded - (if (x.carrierOn .inLeg).isSome ∧ x.inLeg.guarded = true then 1 else 0) -
      (match x.outLeg with
      | some o => if (x.carrierOn .outLeg).isSome ∧ o.guarded = true then 1 else 0
      | none => 0) } ∧
  ∀ i : Fin 63, t.sac.carriers[i] =
    { s.sac.carriers[i] with outAccount := t.sac.carriers[i].outAccount, inAccount := t.sac.carriers[i].inAccount }

/-- A leg's record finds a place: the leg's own when it is guarded, else one with room (R162). -/
def Sac.places (k : Sac) (guarded : Bool) : Bool := guarded || decide (k.records.length + k.guarded < 1024)

/-- An account after a rated leg (R140, R141), its record queued or lost (R163). -/
def ratedAccount (r : ChargeRecord) (queued : Bool) (a : Account) : Account :=
  { a with
    total := min (a.total + r.charge) 1099511627775
    saturated := a.saturated || decide (1099511627775 ≤ a.total + r.charge)
    billed := min (a.billed + r.billed) 4294967295, answered := min (a.answered + 1) 4294967295, locked := true
    lost := if queued = true then a.lost else min (a.lost + 1) 4294967295 }

/-- SAC after one leg on carrier index `i` is rated into the record `r` (R135, R140, R146, R159, R161 to R163, R165): the account, the
sequence number used up, the record at the queue's end with the latch tested, or lost, and for an OUT leg the standing. -/
def Sac.rated (i : Fin 63) (guarded : Bool) (r : ChargeRecord) (k : Sac) : Sac :=
  let queued := k.places guarded
  let x := k.carriers[i].setAccount r.direction (ratedAccount r queued (k.carriers[i].account r.direction))
  let records := if queued = true then k.records ++ [r] else k.records
  { k with
    carriers := k.carriers.set i.val (if r.direction = .outLeg then { x with standing := x.derived } else x) i.isLt
    records
    guarded := if guarded = true then k.guarded - 1 else k.guarded
    sequence := k.sequence + 1
    latch := if queued = true then latchAfter k.latch records.length k.threshold else k.latch }

/-- The events of that leg's rating, in R135's order: ACCOUNT_SATURATED when the flag becomes set (R141), RECORD_HIGH when an appended
record moves the latch (R165) or RECORD_LOST when there is no place (R163), then CARRIER_STANDING when the standing changes, which an
IN leg's rating never does (R146). -/
def State.ratedEvents (k : Sac) (i : Fin 63) (guarded : Bool) (r : ChargeRecord) (s : State) : State :=
  let a := k.carriers[i].account r.direction
  let k' := k.rated i guarded r
  let s := if a.saturated = false ∧ 1099511627775 ≤ a.total + r.charge
    then s.raise (.accountSaturated (i.val + 1) r.direction) else s
  let s := if k.places guarded = true then s.latchEvents k.latch k'.latch
    else s.raise (.recordLost r.sequence (i.val + 1) r.direction)
  s.standingEvents i k.carriers[i].standing k'.carriers[i].standing

/-- The legs of an ANSWERED context are rated with a release stamp and a cut flag, the in-leg complete before the out-leg, so that its
record has the lower sequence number and the out-leg meets the SAC it left (R44, R47, R121, R135): then `ends` holds of the reply's
entries, of SAC after, and of the events. -/
def Context.RatedInto (x : Context) (stamp release : Count) (cut : Bool) (s : State)
    (ends : List LegReply → Sac → (State → State) → Prop) : Prop :=
  let inRecord := fun (i : Fin 63) (k : Sac) => rateRecord s.clk (s.rte.tariff .inLeg i)
    ⟨.inLeg, i, x.inLeg.group, x.inLeg.member, x.inLeg.band, 0, x.inLeg.guarded⟩ x.callRef stamp release cut k.sequence k.period
  let outRecord := fun (o : OutLeg) (i : Fin 63) (k : Sac) => rateRecord s.clk (s.rte.tariff .outLeg i)
    ⟨.outLeg, i, o.group, o.member, o.band, x.bypass, o.guarded⟩ x.callRef stamp release cut k.sequence k.period
  (x.carrierOn .inLeg = none → x.carrierOn .outLeg = none → ends [] s.sac id) ∧
  (∀ i, x.carrierOn .inLeg = some i → x.carrierOn .outLeg = none →
    let r := inRecord i s.sac
    ends [⟨.inLeg, x.inLeg.carrier, .rated (s.sac.places x.inLeg.guarded) r.charge s.sac.sequence⟩]
      (s.sac.rated i x.inLeg.guarded r) (State.ratedEvents s.sac i x.inLeg.guarded r)) ∧
  (∀ o i, x.outLeg = some o → x.carrierOn .inLeg = none → x.carrierOn .outLeg = some i →
    let r := outRecord o i s.sac
    ends [⟨.outLeg, o.carrier, .rated (s.sac.places o.guarded) r.charge s.sac.sequence⟩]
      (s.sac.rated i o.guarded r) (State.ratedEvents s.sac i o.guarded r)) ∧
  (∀ o i j, x.outLeg = some o → x.carrierOn .inLeg = some i → x.carrierOn .outLeg = some j →
    let r := inRecord i s.sac
    let between := s.sac.rated i x.inLeg.guarded r
    let r' := outRecord o j between
    ends [⟨.inLeg, x.inLeg.carrier, .rated (s.sac.places x.inLeg.guarded) r.charge s.sac.sequence⟩,
        ⟨.outLeg, o.carrier, .rated (between.places o.guarded) r'.charge (s.sac.sequence + 1)⟩]
      (between.rated j o.guarded r')
      fun u => State.ratedEvents between j o.guarded r' (State.ratedEvents s.sac i x.inLeg.guarded r u))

/-- A schedule as CALENDAR_SET leaves it: boundaries at rising minutes 1 to 1,439, every period 0 to 3 (R110). -/
def Schedule.sound (x : Schedule) : Prop :=
  x.start ≤ 3 ∧ (x.boundaries.map Prod.fst).Pairwise (· < ·) ∧ ∀ b ∈ x.boundaries, 1 ≤ b.1 ∧ b.1 ≤ 1439 ∧ b.2 ≤ 3

/-! ### Selection -/

/-- The resolved list of a base list: the substitute of the lowest-numbered ACTIVE slot on it, or the base list itself (R100). -/
def ResolvesTo (s : State) (base list : Nat) : Prop :=
  (∃ i : Fin 16, (s.rse.slots[i].state = .active ∧ s.rse.slots[i].base = base) ∧ s.rse.slots[i].substitute = list ∧
    ∀ j : Fin 16, j < i → ¬ (s.rse.slots[j].state = .active ∧ s.rse.slots[j].base = base)) ∨
  list = base ∧ ∀ i : Fin 16, ¬ (s.rse.slots[i].state = .active ∧ s.rse.slots[i].base = base)

/-- R78's table by rows, CLEAR to SEVERE; NORMAL on first choice and as alternate, then DEFERRABLE: how often the reservation r a cell
asks idle to exceed, 0 where it reads idle > 0, none where it is barred. -/
def reservationTable : List (List (Option Nat)) :=
  [[some 0, some 0, some 0, some 0],
   [some 0, some 1, some 0, some 1],
   [some 0, some 2, some 1, some 2],
   [some 0, none, some 2, none],
   [some 1, none, none, none]]

/-- The far-mark gate admits a call of a priority (R85). -/
def MarkAdmits (d : Dest) (p : Priority) : Prop :=
  p = .essential ∨ p = .normal ∧ (d.mark < 2 ∨ d.gap = 0) ∨ p = .deferrable ∧ d.mark = 0

/-- A destination after the gate: under a level 2 mark a NORMAL call moves the gap counter on, 3 to 0 (R86). -/
def Dest.gated (d : Dest) (p : Priority) : Dest :=
  if p = .normal ∧ d.mark = 2 then { d with gap := if d.gap = 3 then 0 else d.gap + 1 } else d

/-- Gates 1 to 4 on the entry at an index, for a call's priority, in their order: the first that fails gives the reason (R59 to
R62). -/
def gateReason (s : State) (p : Priority) (idx : Nat) (e : RouteEntry) : Option Skip :=
  match s.group? e.group with
  | none => some .undefined
  | some r =>
    if r.direction = .incoming ∨ r.state ≠ .inService then some .groupState
    else if s.standing r.carrier = .suspended ∨ s.standing r.carrier = .watch ∧ idx ≠ 0 then some .standing
    else if s.guards r.carrier = true ∧ 1024 ≤ s.sac.records.length + s.sac.guarded then some .recordFull
    else match reserveFor r.level p (idx == 0) r.reservation with
      | none => some .congestion
      | some k => if k = 0 ∨ k < r.idle then none else some .congestion

/-- The reasons of a run of entries, the first of them at index `idx`. -/
def gateReasons (s : State) (p : Priority) (idx : Nat) (es : List RouteEntry) : List (Option Skip) :=
  (es.zipIdx idx).map fun x => gateReason s p x.2 x.1

/-- The six counts of a run of reasons (R66). -/
def countsOf (rs : List (Option Skip)) : Skips :=
  ⟨rs.count (some .undefined), rs.count (some .groupState), rs.count (some .standing), rs.count (some .recordFull),
    rs.count (some .congestion), rs.count (some .noIdle)⟩

/-- The bypass level after a run of entries: the greatest of its value before and the levels of the groups skipped for CONGESTION
(R70). -/
def bypassOver (s : State) (p : Priority) (idx : Nat) (es : List RouteEntry) (before : Nat) : Nat :=
  ((es.zipIdx idx).filterMap fun x =>
    if gateReason s p x.2 x.1 = some .congestion then (s.group? x.1.group).map Group.level else none).foldl max before

/-- A group that grants a member: the attempt counted, the circuit OUT_PENDING with its seize timer running, and on a ROTATING
OUTGOING group the pointer at the next member (R9, R10, R15). -/
def Group.granted (n m : Nat) (r : Group) : Group :=
  { r with
    members := r.members.set m ⟨.outPending, false, false, some n, none, some r.seizeTimeout⟩
    tallies := { r.tallies with attempts := min (r.tallies.attempts + 1) 4294967295 }
    rotate := if r.direction = .outgoing ∧ r.huntOrder = .rotating then (m + 1) % r.size else r.rotate }

/-- A group whose hunt finds nothing: attempts and overflows counted, the score one higher, at most 15 (R9, R63, R75). -/
def Group.overflowed (r : Group) : Group :=
  { r with
    tallies := { r.tallies with
      attempts := min (r.tallies.attempts + 1) 4294967295, overflows := min (r.tallies.overflows + 1) 4294967295 }
    score := min (r.score + 1) 15 }

/-- The event of that increment: GROUP_LEVEL when the level changes (R75, R76). -/
def State.overflowEvents (g : Nat) (r : Group) (s : State) : State :=
  if r.overflowed.level = r.level then s else s.raise (.groupLevel g r.overflowed.level)

/-! ### Invariants -/

/-- Before the start-up clear ends every block holds its power-on values, but for the count and the calendar's running and what the
receiver has brought (R179, R192). -/
def State.clearKept (s : State) : Prop :=
  s.lnk.phase ≠ .running →
    s.ctb = State.reset.ctb ∧ s.rse = State.reset.rse ∧ s.rte = State.reset.rte ∧ s.sac = State.reset.sac ∧
    s.enu = State.reset.enu ∧
    s.clk = { Clk.powerOn with count := s.clk.count, weekday := s.clk.weekday, ds := s.clk.ds, midnightDue := s.clk.midnightDue } ∧
    s.lnk.handed = none ∧ s.lnk.replies = [] ∧ s.lnk.sending = none ∧ s.lnk.replyRun = 0

/-- No two occupied destination places hold one prefix (R50). -/
def State.prefixesDistinct (s : State) : Prop :=
  ∀ a ∈ s.rse.dests, ∀ b ∈ s.rse.dests, a.2.digits = b.2.digits → a.1 = b.1

/-- Every sparse table stands in its canonical form, so equal contents are equal data. -/
def State.canonical (s : State) : Bool :=
  tableWf s.ctb.groups && tableWf s.rse.dests && tableWf s.rse.lists && tableWf s.rse.contexts

/-- A group's state, score and sample timer agree (R20, R21, R72, R73): the score is at most 15; a BLOCKED group has no busy
circuit, score 0 and its timer stopped; a DRAINING group has a busy circuit; a group in service or draining has its timer
running. -/
def Group.sound (r : Group) : Prop :=
  r.score ≤ 15 ∧
  (r.state = .blocked → r.busy = 0 ∧ r.score = 0 ∧ r.sampleTimer = none) ∧
  (r.state = .draining → 0 < r.busy) ∧
  (r.state ≠ .blocked → r.sampleTimer.isSome = true)

/-- Every group is sound. -/
def State.groupsSound (s : State) : Prop := ∀ x ∈ s.ctb.groups, x.2.sound

/-- No two groups share a circuit-table index, and every run lies inside the table (R2). -/
def State.runsDisjoint (s : State) : Prop :=
  tableWf s.ctb.groups = true ∧
  (∀ x ∈ s.ctb.groups, 0 < x.2.size ∧ x.2.first + x.2.size ≤ Config.circuits) ∧
  (∀ x ∈ s.ctb.groups, ∀ y ∈ s.ctb.groups, x.1 ≠ y.1 → runsOverlap x.2.first x.2.size y.2.first y.2.size = false)

/-- Every carrier's standing is the one R145 gives. -/
def State.standingsDerived (s : State) : Prop := ∀ i : Fin 63, s.sac.carriers[i].standing = s.sac.carriers[i].derived

/-- Every account is locked exactly when its answered legs count is nonzero (R148). -/
def State.locksAgree (s : State) : Prop :=
  ∀ (i : Fin 63) (d : LegDir),
    ((s.sac.carriers[i].account d).locked = true ↔ (s.sac.carriers[i].account d).answered ≠ 0)

/-- The notice queue keeps R174's bounds: one entry per pair of kind and subject, 63 ordinary entries at most; and every
occurrence count lies in 1 to 65,535 (R175). -/
def State.noticesBounded (s : State) : Prop :=
  s.enu.notices.Pairwise (fun a b => a.event.samePair b.event = false) ∧
  ordinaryCount s.enu.notices ≤ Config.notices ∧
  ∀ n ∈ s.enu.notices, 1 ≤ n.count ∧ n.count ≤ Config.occurrenceMax

/-- A routed call's budget (R31). -/
def Progress.withinBudget (g : Progress) : Prop :=
  1 ≤ g.budget ∧ g.budget ≤ 15 ∧ g.used ≤ g.budget ∧ g.tried.length = g.used ∧ g.tried.Nodup

/-- Every routed call is within its budget (R31). -/
def State.budgetsHeld (s : State) : Prop := ∀ x ∈ s.rse.contexts, ∀ g, x.2.progress = some g → g.withinBudget

/-- Number of guarded legs of a context. -/
def Context.guardedLegs (c : Context) : Nat :=
  (if c.inLeg.guarded then 1 else 0) + (match c.outLeg with | some o => if o.guarded then 1 else 0 | none => 0)

/-- Number of legs present in contexts with their guarded flag set (9.1). -/
def State.guardedLegs (s : State) : Nat := (s.rse.contexts.map fun x => x.2.guardedLegs).sum

/-- The states in which an out-leg is present (R29). -/
def CallState.hasOutLeg : CallState → Bool
  | .pending => true
  | .established => true
  | .answered => true
  | .inOnly => false
  | .halted => false
  | .spent => false

/-- A context's legs agree with its state and its guarded flags with its carriers (R29, R30). -/
def Context.legsSound (c : Context) : Prop :=
  c.outLeg.isSome = c.state.hasOutLeg ∧
  (c.inLeg.guarded = true → chargeable c.inLeg.carrier = true) ∧
  (∀ o, c.outLeg = some o → o.guarded = true → chargeable o.carrier = true)

/-- The guarded count equals the guarded legs present, and records and guarded legs never exceed the queue's 1,024 places (R157,
R161). -/
def State.roomKept (s : State) : Prop :=
  tableWf s.rse.contexts = true ∧ (∀ x ∈ s.rse.contexts, x.2.legsSound) ∧
  s.sac.guarded = s.guardedLegs ∧ s.sac.records.length + s.sac.guarded ≤ Config.records

/-- A circuit is the out-leg of exactly the context its context field names (R6). -/
def State.outHeld (s : State) (g m : Nat) (c : Circuit) : Prop :=
  ∃ n x o, c.context = some n ∧ s.context? n = some x ∧ x.outLeg = some o ∧ o.group = g ∧ o.member = m ∧
    (c.state = .outPending → x.state = .pending) ∧ (c.state = .outBusy → x.state = .established ∨ x.state = .answered)

/-- A circuit is the in-leg of the context its context field names (R6). -/
def State.inHeld (s : State) (g m : Nat) (c : Circuit) : Prop :=
  ∃ n x, c.context = some n ∧ s.context? n = some x ∧ x.inLeg.group = g ∧ x.inLeg.member = m

/-- A context's legs name circuits in the busy state that goes with its own state, which name the context (R6, R30). -/
def State.legsHeld (s : State) (n : Nat) (x : Context) : Prop :=
  (∃ c, s.circuit? x.inLeg.group x.inLeg.member = some c ∧ c.state = .inBusy ∧ c.context = some n) ∧
  (∀ o, x.outLeg = some o → ∃ c, s.circuit? o.group o.member = some c ∧ c.context = some n ∧
    c.state = (if x.state = .pending then .outPending else .outBusy))

/-- Circuits and contexts agree (R6), with what that rests on: canonical tables, sound groups, out-legs only in the states of R29,
context numbers 0 to 4,095, and no context left behind a running sweep (R28, R47). -/
def State.callsAgree (s : State) : Prop :=
  s.canonical = true ∧ s.groupsSound ∧
  (∀ g m c, s.circuit? g m = some c → c.state = .outPending ∨ c.state = .outBusy → s.outHeld g m c) ∧
  (∀ g m c, s.circuit? g m = some c → c.state = .inBusy → s.inHeld g m c) ∧
  (∀ n x, s.context? n = some x → s.legsHeld n x) ∧
  (∀ x ∈ s.rse.contexts, x.2.outLeg.isSome = x.2.state.hasOutLeg ∧ x.1 < Config.contexts ∧
    ∀ w, s.rse.sweep = some w → w.next ≤ x.1)

end Sys2Proof.Machine
end

