-- ==== Sys2Proof/WellFormed.lean ====
section
/-! DEFINITION. When a command is well formed: every request field fits the width R194 gives it, every digit field has its
fixed run, a counted body fits a frame (R196), and the bytes of a FRAME_COMPLETE hold no delimiter but a leading one. A
command that is not well formed can come from no frame. -/

namespace Sys2Proof

/-- A one-byte field (R194). -/
def isByte (n : Nat) : Bool := decide (n < 256)
/-- A two-byte field (R194). -/
def isWord (n : Nat) : Bool := decide (n < 65536)

/-- A digit field whose run has `len` bytes (R194). -/
def DigitField.wellFormed (len : Nat) (d : DigitField) : Bool :=
  isByte d.count && d.run.length == len && d.run.all isByte

/-- The widths of GROUP_DEFINE (R194, R196). -/
def GroupFields.wellFormed (f : GroupFields) : Bool :=
  isWord f.group && isWord f.first && isWord f.size && isByte f.direction && isByte f.carrier && isByte f.inboundBand &&
  isByte f.huntOrder && isWord f.localKey && isWord f.farKey && isWord f.reservation && isWord f.loadThreshold &&
  isWord f.sampleInterval && isByte f.guardTime && isWord f.seizeTimeout

/-- The widths of OVERLAY_SET (R194, R196). -/
def OverlayFields.wellFormed (f : OverlayFields) : Bool :=
  isByte f.slot && isWord f.base && isWord f.substitute && isByte f.trigger && isWord f.group && isByte f.level &&
  isByte f.carrier && isByte f.standing && isByte f.revert

/-- The widths of TARIFF_SET (R194, R196). -/
def TariffFields.wellFormed (f : TariffFields) : Bool :=
  isByte f.carrier && isByte f.direction && f.rates.all isWord && isWord f.fee && isWord f.minimum && isByte f.increment &&
  f.factors.all isWord && decide (f.cap < 4294967296)

/-- The check itself. -/
def Instr.wellFormed : Instr → Bool
  | .seizeIn g m _ p => isWord g && isWord m && isByte p
  | .route n b d => isWord n && isByte b && d.wellFormed 24
  | .continueCall n => isWord n
  | .confirm n g m => isWord n && isWord g && isWord m
  | .failCall n g m c f => isWord n && isWord g && isWord m && isByte c && isByte f
  | .answer n => isWord n
  | .release n => isWord n
  | .farMark d l t => d.wellFormed 16 && isByte l && isWord t
  | .groupDefine f => f.wellFormed
  | .groupBlock g => isWord g
  | .groupUnblock g => isWord g
  | .circuitBlock g m => isWord g && isWord m
  | .circuitUnblock g m => isWord g && isWord m
  | .destSet d l => d.wellFormed 16 && isWord l
  | .destClear d => d.wellFormed 16
  | .listSet l es => isWord l && decide (3 + 3 * es.length ≤ Config.maxBody) && es.all (fun e => isWord e.1 && isByte e.2)
  | .overlaySet f => f.wellFormed
  | .overlayArm n => isByte n
  | .overlayDisarm n => isByte n
  | .overlayFire n => isByte n
  | .overlayRevert n => isByte n
  | .tariffSet f => f.wellFormed
  | .calendarSet t p bs =>
      isByte t && isByte p && decide (3 + 3 * bs.length ≤ Config.maxBody) && bs.all (fun b => isWord b.1 && isByte b.2)
  | .weekSet ds => ds.all isByte
  | .timeSet w d f => isByte w && decide (d < 16777216) && isByte f
  | .carrierLimits c w k => isByte c && decide (w < 18446744073709551616) && decide (k < 18446744073709551616)
  | .carrierBar c f => isByte c && isByte f
  | .guardMode m t => isByte m && isWord t
  | .eventConfig m _ e es =>
      isByte m && isByte e && decide (5 + 3 * es.length ≤ Config.maxBody) &&
      es.all (fun x => isByte x.1 && isByte x.2.1 && isByte x.2.2)
  | .periodClose c => isByte c
  | .recordsFetch n => isByte n
  | .query t n m c => isByte t && isWord n && isWord m && isByte c
  | .trafficRestart => true
  | .sweepContextVisit => true
  | .sweepCompletion => true
  | .guardTimerExpiry g m => decide (g < Config.groups) && decide (m < Config.maxSize)
  | .seizeTimerExpiry g m => decide (g < Config.groups) && decide (m < Config.maxSize)
  | .sampleTimerExpiry g => decide (g < Config.groups)
  | .markExpiry i => decide (i < Config.dests)
  | .midnightRollover => true
  | .frameComplete w => (w.drop 1).all (fun b => b != 0xA5)
  | .takeFrame => true
  | .transmitterChoice => true
  | .powerOnReset => true
  | .resetInputAsserted => true
  | .startUpClearEnd => true
  | .endOfDecisecond => true
  | .frameSent => true

end Sys2Proof
end

