-- ==== Sys2Proof/Certificates/Slice0/Obligations.lean ====
section
/-! DEFINITION. The statements for the provers, each a proposition about the model, from the rules of spec/ its docstring names. -/

open Sys2Proof Sys2Proof.Machine

/-! ### The machine -/

/-- A step takes the command at the front of the queue and carries it out on the rest; with none waiting the part idles (log 3,
log 4: the model's choices). -/
def Obligations.StepTakesTheFrontCommand : Prop :=
  (∀ (c : Instr) (q : List Instr) (s : State), s.pending = c :: q → step s = exec c (s.withPending q)) ∧
  ∀ s : State, s.pending = [] → step s = .next s

/-- The values after power-on (R26, R28, R49, R53, R88, R90, R115, R116, R156, R168, R170, R192); the phase and the empty queue
are the model's (log 4, log 5). -/
def Obligations.ResetHoldsPowerOnValues : Prop :=
  State.reset.ctb.groups = [] ∧ State.reset.rse.contexts = [] ∧ State.reset.rse.dests = [] ∧ State.reset.rse.lists = [] ∧
  State.reset.rse.sweep = none ∧
  (∀ i : Fin 16, State.reset.rse.slots[i] = ⟨0, 0, .manual, .manual, .disarmed⟩) ∧
  State.reset.clk.count = 0 ∧ State.reset.clk.clock = .unset ∧ State.reset.clk.weekday = 0 ∧ State.reset.clk.ds = 0 ∧
  State.reset.clk.today = false ∧ State.reset.clk.yesterday = false ∧
  State.reset.clk.work = ⟨0, []⟩ ∧ State.reset.clk.rest = ⟨0, []⟩ ∧ (∀ d : Fin 7, State.reset.clk.week[d] = .work) ∧
  (∀ (d : LegDir) (i : Fin 63), State.reset.rte.tariff d i =
    ⟨Vector.replicate 32 0, 0, 0, 1, Vector.replicate 5 100, 0, 0⟩) ∧
  (∀ i : Fin 63, State.reset.sac.carriers[i] =
    ⟨0, 0, false, .normal, ⟨0, false, 0, 0, 0, 0, false, 0, none⟩, ⟨0, false, 0, 0, 0, 0, false, 0, none⟩⟩) ∧
  State.reset.sac.period = 0 ∧ State.reset.sac.records = [] ∧ State.reset.sac.guarded = 0 ∧ State.reset.sac.mode = .lenient ∧
  State.reset.sac.threshold = 896 ∧ State.reset.sac.latch = false ∧ State.reset.sac.sequence = 0 ∧
  (∀ k : Kind, State.reset.enu.config k = ⟨decide (k = .startup ∨ k = .noticeOverflow), 0, .notice⟩) ∧
  State.reset.enu.elevated = none ∧ State.reset.enu.notices = [] ∧
  State.reset.lnk.inbound = [] ∧ State.reset.lnk.replies = [] ∧ State.reset.lnk.handed = none ∧
  State.reset.lnk.sending = none ∧ State.reset.lnk.replyRun = 0 ∧ State.reset.lnk.badCheck = 0 ∧
  State.reset.lnk.malformed = 0 ∧ State.reset.lnk.overruns = 0 ∧ State.reset.lnk.rx.synced = false ∧
  State.reset.lnk.phase = .clearing ∧ State.reset.pending = []

/-- Every command answers a next state and leaves the waiting commands as they are: nothing stops the part (R133, R183, R198). A
command whose occasion is absent changes nothing: a request not handed on and not to be taken, a visit or completion the sweep is
not ready for, a timer not due, no frame to take or a transmitter busy or idle, a phase that has no such step.
That the resets keep the waiting commands, and that a command may come without its occasion, are the model's choices (log 4,
log 2). -/
def Obligations.EveryCommandAnswersNext : Prop :=
  (∀ (c : Instr) (s : State), ∃ t, exec c s = .next t ∧ t.pending = s.pending) ∧
  (∀ (c : Instr) (s : State), (requestCode c).isSome = true →
    ((∃ h, s.lnk.handed = some h ∧ h.request ≠ c) ∨
      s.lnk.handed = none ∧ (s.lnk.phase ≠ .running ∨ s.lnk.inbound ≠ [] ∨ s.freePlaces = 0)) →
    exec c s = .next s) ∧
  ∀ s : State,
    (s.rse.sweep = none ∨ (∃ w, s.rse.sweep = some w ∧ 4096 ≤ w.next) → exec .sweepContextVisit s = .next s) ∧
    (s.rse.sweep = none ∨ (∃ w, s.rse.sweep = some w ∧ w.next < 4096) ∨ s.lnk.handed ≠ none →
      exec .sweepCompletion s = .next s) ∧
    (∀ g m, (∀ c, s.circuit? g m = some c → ¬ (c.state = .guard ∧ c.guardTimer = some 0)) →
      exec (.guardTimerExpiry g m) s = .next s) ∧
    (∀ g m, (∀ c, s.circuit? g m = some c → ¬ (c.state = .outPending ∧ c.seizeTimer = some 0)) →
      exec (.seizeTimerExpiry g m) s = .next s) ∧
    (∀ g, (∀ r, s.group? g = some r → r.sampleTimer ≠ some 0) → exec (.sampleTimerExpiry g) s = .next s) ∧
    (∀ i, (∀ d, s.dest? i = some d → d.markTimer ≠ some 0) → exec (.markExpiry i) s = .next s) ∧
    (s.clk.midnightDue = false → exec .midnightRollover s = .next s) ∧
    (s.lnk.phase = .inReset → exec .endOfDecisecond s = .next s ∧ ∀ wire, exec (.frameComplete wire) s = .next s) ∧
    (s.lnk.inbound = [] ∨ s.lnk.phase ≠ .running ∨ s.lnk.handed ≠ none ∨ s.freePlaces = 0 → exec .takeFrame s = .next s) ∧
    (s.lnk.sending ≠ none → exec .transmitterChoice s = .next s) ∧
    (s.lnk.sending = none → exec .frameSent s = .next s) ∧
    (s.lnk.phase ≠ .clearing → exec .startUpClearEnd s = .next s)

/-- A request taken is answered with exactly one reply, placed last in the reply FIFO with the request's kind code plus 0x80 and
its tag (R186, R188, R189). TRAFFIC_RESTART's reply comes at the sweep's completion.
When a request is taken: log 1, the model's choice. -/
def Obligations.RequestTakenIsAnsweredOnce : Prop :=
  ∀ (c : Instr) (k : Byte) (s : State) (h : Handed),
    requestCode c = some k → c ≠ .trafficRestart → s.takes? c = some h →
    ∃ a t, exec c s = .next t ∧ t.lnk.replies = s.lnk.replies ++ [⟨k + 0x80, h.tag, a⟩] ∧ t.lnk.handed = none ∧
      t.lnk.inbound = s.lnk.inbound ∧ t.lnk.rx = s.lnk.rx ∧ t.lnk.sending = s.lnk.sending ∧ t.lnk.replyRun = s.lnk.replyRun ∧
      t.lnk.phase = s.lnk.phase ∧ t.clk.count = s.clk.count

/-- While a sweep runs every request but QUERY and RECORDS_FETCH is refused with RESTARTING and changes nothing else (R46).
When a request is taken: log 1, the model's choice. -/
def Obligations.SweepRefusesRequests : Prop :=
  ∀ (c : Instr) (k : Byte) (s : State) (h : Handed),
    requestCode c = some k → (∀ t n m x, c ≠ .query t n m x) → (∀ n, c ≠ .recordsFetch n) →
    s.takes? c = some h → s.sweeping = true →
    exec c s = .next { s with lnk := s.lnk.answered k h.tag (.denied .restarting) }

/-- A refused request, of any kind, changes nothing but its reply: refused with a status of R198, with BAD_FIELD, or with NO_ROUTE at a
DEST_CLEAR or FAR_MARK that finds no entry (R32, R51, R81, R198). One refusal counts: GLARE_REJECTED, the status of a SEIZE_IN
alone, adds one to its group's glare won tally (R24).
When a request is taken: log 1, the model's choice. -/
def Obligations.RefusedTrafficRequestChangesNothing : Prop :=
  ∀ (c : Instr) (k : Byte) (s t : State) (h : Handed) (a : Answer),
    requestCode c = some k → s.takes? c = some h → exec c s = .next t →
    t.lnk.replies = s.lnk.replies ++ [⟨k + 0x80, h.tag, a⟩] →
    ((∃ d, a = .denied d) ∨ (∃ f e p, a = .badField f e p) ∨ (k = 0x08 ∨ k = 0x19) ∧ a = .selection none .noRoute) →
    (a ≠ .denied .glareRejected → t = { s with lnk := s.lnk.answered k h.tag a }) ∧
    (a = .denied .glareRejected →
      ∃ g m q p r, c = .seizeIn g m q p ∧ s.group? g = some r ∧ t.lnk = s.lnk.answered k h.tag a ∧
        t.group? g = some { r with tallies := { r.tallies with glareWon := min (r.tallies.glareWon + 1) 4294967295 } } ∧
        OtherGroups g s t ∧ SameOutsideCtb s t)

/-! ### Invariants -/

/-- Every step keeps every table in its canonical form, the model's own (log 14: the model's choice). -/
def Obligations.StepKeepsTablesCanonical : Prop :=
  ∀ s t : State, s.canonical = true → step s = .next t → t.canonical = true

/-- Every step keeps each group's state, score and sample timer in agreement (R20, R21, R72, R73). -/
def Obligations.StepKeepsGroupsSound : Prop :=
  ∀ s t : State, s.groupsSound → step s = .next t → t.groupsSound

/-- No two defined groups share a circuit-table index, after every step (R2). -/
def Obligations.StepKeepsRunsDisjoint : Prop :=
  ∀ s t : State, s.runsDisjoint → step s = .next t → t.runsDisjoint

/-- Every carrier's standing is the one R145 gives, after every step (R145, R146). -/
def Obligations.StepKeepsStandingsDerived : Prop :=
  ∀ s t : State, s.standingsDerived → step s = .next t → t.standingsDerived

/-- An account is locked exactly when its answered legs count is nonzero, after every step (R148). -/
def Obligations.StepKeepsLocksAgreeing : Prop :=
  ∀ s t : State, s.locksAgree → step s = .next t → t.locksAgree

/-- The notice queue holds one entry per pair of kind and subject and at most 63 ordinary ones, after every step (R174). -/
def Obligations.StepKeepsNoticesBounded : Prop :=
  ∀ s t : State, s.noticesBounded → step s = .next t → t.noticesBounded

/-- Attempts used stay within the budget, and the tried list holds that many distinct circuits, after every step (R31). -/
def Obligations.StepKeepsBudgetsHeld : Prop :=
  ∀ s t : State, s.budgetsHeld → step s = .next t → t.budgetsHeld

/-- The guarded count equals the guarded legs present, and queued records + guarded legs ≤ 1,024, after every step (R157, R161). -/
def Obligations.StepKeepsRecordRoom : Prop :=
  ∀ s t : State, s.roomKept → step s = .next t → t.roomKept

/-- Circuits and contexts name each other as R6 states, after every step. -/
def Obligations.StepKeepsCallsAgreeing : Prop :=
  ∀ s t : State, s.callsAgree → step s = .next t → t.callsAgree

/-- Every invariant of the statements holds right after power-on reset. -/
def Obligations.ResetMeetsEveryInvariant : Prop :=
  State.reset.canonical = true ∧ State.reset.groupsSound ∧ State.reset.runsDisjoint ∧ State.reset.standingsDerived ∧
  State.reset.locksAgree ∧ State.reset.noticesBounded ∧ State.reset.budgetsHeld ∧ State.reset.roomKept ∧
  State.reset.callsAgree ∧ State.reset.prefixesDistinct ∧ State.reset.clearKept ∧
  State.reset.lnk.rx = ⟨false, [], false, false⟩

/-! ### The link -/

/-- A body written from a request's fields is read back as that request (R187, R194, R196). -/
def Obligations.RequestBodyReadsBack : Prop :=
  ∀ (i : Instr) (k : Byte), i.wellFormed = true → requestCode i = some k → judge k (requestBody i) = .request i

/-- A frame sent by R181 and R182 reaches the inbound queue as it was sent, with the present count as its arrival count, or is an
overrun when all 16 places are taken (R181 to R185).
What bytes the command carries is the model's choice (log 16). -/
def Obligations.FrameOnTheWireIsQueued : Prop :=
  ∀ (s : State) (kind : Byte) (tag : BitVec 16) (body : List Byte),
    body.length ≤ 480 → s.lnk.phase ≠ .inReset → s.lnk.rx = ⟨true, [], false, false⟩ →
    exec (.frameComplete (escapeBytes (frameContent kind tag body))) s =
      .next (if s.lnk.inbound.length < 16 then
          { s with lnk := { s.lnk with inbound := s.lnk.inbound ++ [⟨kind, tag, body, s.clk.count⟩] } }
        else State.raise (.linkTrouble .overrun) { s with lnk := { s.lnk with overruns := min (s.lnk.overruns + 1) 4294967295 } })

/-- The bytes between two delimiters make a frame: the receiver undoes the escaping, disregards an empty frame, and discards a frame
that fails a test of R183 with that test's tally and LINK_TROUBLE cause, the first failing test deciding; a frame that fails none is
queued with the present count (R181, R183 to R185). Before the first delimiter after a reset every byte is discarded, a delimiter
among the bytes ends one frame and begins the next, and between two commands no frame is being collected.
What bytes the command carries is the model's choice (log 16). -/
def Obligations.FrameTestsDecideTheDiscard : Prop :=
  (∀ (s : State) (wire : List Byte), s.lnk.phase ≠ .inReset → s.lnk.rx = ⟨true, [], false, false⟩ → 0xA5 ∉ wire →
    let r := wire.foldl Receiver.byte ⟨true, [], false, false⟩
    let len := field r.collected 0 2
    let badCheck := Host.Outcome.next (φ := Fault) (ρ := Refusal)
      (State.raise (.linkTrouble .badCheck) { s with lnk := { s.lnk with badCheck := min (s.lnk.badCheck + 1) 4294967295 } })
    exec (.frameComplete wire) s =
      if r.bad = true ∨ r.escape = true then badCheck
      else if wire = [] then .next s
      else if r.collected.length < 7 then badCheck
      else if 480 < len then
        .next (State.raise (.linkTrouble .oversize) { s with lnk := { s.lnk with malformed := min (s.lnk.malformed + 1) 4294967295 } })
      else if r.collected.length ≠ 5 + len + 2 then badCheck
      else if crc (r.collected.take (5 + len)) ≠ BitVec.ofNat 16 (ofBe (r.collected.drop (5 + len))) then badCheck
      else if 16 ≤ s.lnk.inbound.length then
        .next (State.raise (.linkTrouble .overrun) { s with lnk := { s.lnk with overruns := min (s.lnk.overruns + 1) 4294967295 } })
      else .next { s with lnk := { s.lnk with inbound := s.lnk.inbound ++
          [⟨BitVec.ofNat 8 (field r.collected 2 1), BitVec.ofNat 16 (field r.collected 3 2), (r.collected.drop 5).take len,
            s.clk.count⟩] } }) ∧
  (∀ r : Receiver, r.synced = true →
    (r.escape = false → ∀ b, b ≠ 0xA5 →
      r.byte b = if b = 0xA6 then { r with escape := true } else { r with collected := r.collected ++ [b] }) ∧
    (r.escape = true → ∀ b, b ≠ 0xA5 →
      r.byte b = if b = 0x85 then { r with escape := false, collected := r.collected ++ [0xA5] }
        else if b = 0x86 then { r with escape := false, collected := r.collected ++ [0xA6] }
        else { r with escape := false, bad := true })) ∧
  (∀ (s : State) (wire : List Byte), s.lnk.phase ≠ .inReset → s.lnk.rx = ⟨false, [], false, false⟩ → 0xA5 ∉ wire →
    exec (.frameComplete wire) s = .next { s with lnk := { s.lnk with rx := ⟨true, [], false, false⟩ } }) ∧
  (∀ (s t : State) (first later : List Byte), exec (.frameComplete first) s = .next t →
    exec (.frameComplete (first ++ 0xA5 :: later)) s = exec (.frameComplete later) t) ∧
  (∀ s t : State, (s.lnk.rx = ⟨true, [], false, false⟩ ∨ s.lnk.rx = ⟨false, [], false, false⟩) → step s = .next t →
    t.lnk.rx = ⟨true, [], false, false⟩ ∨ t.lnk.rx = ⟨false, [], false, false⟩)

/-- Every message has its length: a charge record 58 bytes, a notice body 15, a selection detail 12, a closing statement 27, and a
RECORDS_FETCH reply of eight records 468 (R198, R199, R202, R203). -/
def Obligations.MessagesHaveTheirLengths : Prop :=
  (∀ r : ChargeRecord, (recordBytes r).length = 58) ∧ (∀ n : Notice, (noticeBytes n).length = 15) ∧
  (∀ o : Selection, (detailBytes o).length = 12) ∧ (∀ x : Option Statement, (statementBytes x).length = 27) ∧
  (∀ (rs : List ChargeRecord) (fill : Nat), (answerBytes (.accepted (.records rs fill))).length = 4 + 58 * rs.length) ∧
  (∀ n, (answerBytes (.accepted (.seized n none))).length = 4) ∧
  (∀ n y o, (answerBytes (.accepted (.seized n (some (y, o))))).length = 20)

/-- LNK takes the head frame when the part runs, the previous request is answered and a reply place is free: a request's frame is
handed on with its tag and arrival count, an unknown kind and a wrong length are answered by LNK (R186, R187). -/
def Obligations.TakenFrameIsJudged : Prop :=
  ∀ (s : State) (f : InFrame) (q : List InFrame),
    s.lnk.inbound = f :: q → s.lnk.phase = .running → s.lnk.handed = none → 0 < s.freePlaces →
    (∀ i : Instr, i.wellFormed = true → requestCode i = some f.kind → f.body = requestBody i →
      exec .takeFrame s = .next { s with lnk := { s.lnk with inbound := q, handed := some ⟨f.tag, f.arrival, i⟩ } }) ∧
    (requestLength f.kind.toNat f.body = none →
      exec .takeFrame s = .next { s with lnk := { s.lnk with inbound := q, replies := s.lnk.replies ++
        [⟨if f.kind.toNat < 0x80 then f.kind + 0x80 else 0xFF, f.tag, .unknownKind f.kind⟩] } }) ∧
    (∀ n, requestLength f.kind.toNat f.body = some n → f.body.length ≠ n →
      exec .takeFrame s = .next { s with lnk := { s.lnk with inbound := q, replies := s.lnk.replies ++
        [⟨f.kind + 0x80, f.tag, .badLength f.body.length⟩] } })

/-- When the transmitter chooses, being idle or at a frame's end, and a notice waits with no reply or the reply run at 8, the notice
of R177's order goes: the elevated kind first, then the higher priority, then the older; it leaves the queue, and the run is 0
(R177, R190, R191).
That the idle transmitter's choice is a step of its own is the model's (log 17). -/
def Obligations.TransmitterSendsTheFirstNotice : Prop :=
  ∀ (c : Instr) (s : State),
    (c = .transmitterChoice ∧ s.lnk.sending = none) ∨ (c = .frameSent ∧ s.lnk.sending ≠ none) →
    s.enu.notices ≠ [] → (s.lnk.replies = [] ∨ s.lnk.replyRun = 8) →
    let rank := fun n : Notice => if s.enu.elevated = some n.event.kind then 8 else (s.enu.config n.event.kind).priority
    ∃ before n after, s.enu.notices = before ++ n :: after ∧ (∀ m ∈ before, rank m < rank n) ∧ (∀ m ∈ after, rank m ≤ rank n) ∧
      exec c s = .next { s with
        enu := { s.enu with notices := before ++ after }
        lnk := { s.lnk with sending := some ⟨0x7F, 0, noticeBytes n⟩, replyRun := 0 } }

/-- When the transmitter chooses and a reply waits, with no notice or a reply run below 8, the oldest reply goes, and the run counts
only while a notice waits; with nothing waiting the transmitter is idle (R189, R190).
That the idle transmitter's choice is a step of its own is the model's (log 17). -/
def Obligations.TransmitterSendsTheOldestReply : Prop :=
  ∀ (c : Instr) (s : State),
    (c = .transmitterChoice ∧ s.lnk.sending = none) ∨ (c = .frameSent ∧ s.lnk.sending ≠ none) →
    (∀ r q, s.lnk.replies = r :: q → (s.enu.notices = [] ∨ s.lnk.replyRun < 8) →
      exec c s = .next { s with lnk := { s.lnk with
        replies := q, sending := some ⟨r.kind, r.tag, answerBytes r.answer⟩
        replyRun := if s.enu.notices = [] then 0 else s.lnk.replyRun + 1 } }) ∧
    (s.lnk.replies = [] → s.enu.notices = [] → exec c s = .next { s with lnk := { s.lnk with sending := none } })

/-- Power-on reset brings every block to its power-on values and begins the start-up clear, and asserting the reset input loses
everything at once. The clear's end raises STARTUP with the count and lets requests be taken; the idle transmitter chooses STARTUP
in that same step, so it is the first frame sent and stands before any reply (R115, R179, R192, R193). Until then every step keeps
every block at its power-on values, but for the running count and calendar and the frames received.
That the waiting commands stay, and the phase while the input is held, are the model's (log 4, log 8). -/
def Obligations.ResetAndStartUp : Prop :=
  (∀ s : State, exec .powerOnReset s = .next { State.reset with pending := s.pending } ∧
    exec .resetInputAsserted s =
      .next { State.reset with lnk := { State.reset.lnk with phase := .inReset }, pending := s.pending }) ∧
  (∀ (s : State) (p : Nat), s.lnk.phase = .clearing → s.enu.config .startup = ⟨true, p, .notice⟩ → s.enu.notices = [] →
    s.lnk.replies = [] → s.lnk.sending = none →
    exec .startUpClearEnd s = .next { s with lnk := { s.lnk with
      phase := .running, sending := some ⟨0x7F, 0, noticeBytes ⟨.startup s.clk.count, 1, s.clk.count⟩⟩, replyRun := 0 } }) ∧
  ∀ s t : State, s.clearKept → step s = .next t → t.clearKept

/-! ### Calls -/

/-- An accepted SEIZE_IN takes the lowest-numbered FREE context, sets it IN_ONLY with its in-leg, and makes the circuit IN_BUSY under
it; block pending is kept, and in STRICT mode a chargeable leg takes its record place (R23, R28, R30, R33, R160).
When a request is taken: log 1, the model's choice. -/
def Obligations.SeizeInTakesAContext : Prop :=
  ∀ (s : State) (h : Handed) (g m prio n : Nat) (q : BitVec 32) (p : Priority) (r : Group) (c : Circuit),
    Taken s (.seizeIn g m q prio) h → s.group? g = some r → r.members[m]? = some c → decodePriority prio = some p →
    r.direction ≠ .outgoing → r.state ≠ .blocked → (c.state = .idle ∨ c.state = .guard) → LowestFree s n → Admits s r.carrier →
    ∃ t, exec (.seizeIn g m q prio) s = .next t ∧
      t.lnk = s.lnk.answered 0x01 h.tag (.accepted (.seized n none)) ∧
      t.context? n = some ⟨.inOnly, q, p, ⟨g, m, r.carrier, r.inboundBand, s.guards r.carrier⟩, none, none, none, none, 0, none,
        none⟩ ∧
      OtherContexts n s t ∧
      t.group? g = some { r with members := r.members.set m ⟨.inBusy, c.blockPending, false, some n, none, none⟩ } ∧
      OtherGroups g s t ∧ t.sac = s.sac.admitted (s.guards r.carrier) ∧ t.rse.dests = s.rse.dests ∧ SameRoutes s t ∧
      SameServices s t

/-- Glare on an OUT_PENDING circuit (R24, R25, R41): with the greater local key this end wins, GLARE_REJECTED and a tally; with the
lesser it yields to a new context. The losing context, its budget used up, is HALTED with cause GLARE; otherwise its re-hunt has the
outcome and the effects that CONTINUE would have on the state the yield leaves, but that a re-hunt without a grant leaves the context
HALTED with cause GLARE. The glare lost tally and GLARE come after it.
When a request is taken: log 1, the model's choice. -/
def Obligations.GlareIsDecidedByTheKeys : Prop :=
  ∀ (s : State) (h : Handed) (g m prio : Nat) (q : BitVec 32) (p : Priority) (r : Group) (c : Circuit),
    Taken s (.seizeIn g m q prio) h → s.group? g = some r → r.members[m]? = some c → decodePriority prio = some p →
    r.direction = .both → r.state ≠ .blocked → c.state = .outPending →
    (r.farKey < r.localKey →
      ∃ t, exec (.seizeIn g m q prio) s = .next t ∧ t.lnk = s.lnk.answered 0x01 h.tag (.denied .glareRejected) ∧
        t.group? g = some { r with tallies := { r.tallies with glareWon := min (r.tallies.glareWon + 1) 4294967295 } } ∧
        OtherGroups g s t ∧ SameOutsideCtb s t) ∧
    (∀ n k x, r.localKey < r.farKey → LowestFree s n → Admits s r.carrier → c.context = some k → s.context? k = some x →
      let newcomer : Context :=
        ⟨.inOnly, q, p, ⟨g, m, r.carrier, r.inboundBand, s.guards r.carrier⟩, none, none, none, none, 0, none, none⟩
      let loser : Context := { x with state := .halted, outLeg := none, haltCause := some .glare }
      let yielded : Group := { r with members := r.members.set m ⟨.inBusy, c.blockPending, false, some n, none, none⟩ }
      let sac := (s.sac.admitted (s.guards r.carrier)).settled (match x.outLeg with | some o => o.guarded | none => false)
      let lost := fun y : Group =>
        { y with tallies := { y.tallies with glareLost := min (y.tallies.glareLost + 1) 4294967295 } }
      (x.mayTry = false →
        ∃ t, exec (.seizeIn g m q prio) s = .next t ∧
          t.lnk = s.lnk.answered 0x01 h.tag (.accepted (.seized n (some (k, .overBudget)))) ∧
          t.context? n = some newcomer ∧ t.context? k = some loser ∧
          (∀ j, j ≠ n → j ≠ k → t.context? j = s.context? j) ∧ t.group? g = some (lost yielded) ∧
          OtherGroups g s t ∧ t.sac = sac ∧ SameEvents (s.raise (.glare g m)) t ∧
          t.rse.dests = s.rse.dests ∧ t.rse.lists = s.rse.lists ∧ t.rse.sweep = s.rse.sweep ∧ t.clk = s.clk ∧ t.rte = s.rte ∧
          t.pending = s.pending) ∧
      (k ≤ 4095 →
        ∃ t o u, exec (.continueCall k)
            { ((s.setGroup g yielded).setContext n newcomer).setContext k loser with
              sac, lnk := { s.lnk with handed := some ⟨h.tag, h.arrival, .continueCall k⟩ } } = .next t ∧
          t.lnk = s.lnk.answered 0x03 h.tag (.selection none o) ∧
          exec (.seizeIn g m q prio) s = .next u ∧
          u.lnk = s.lnk.answered 0x01 h.tag (.accepted (.seized n (some (k, o)))) ∧
          u.context? k = (if o.isGrant = true then t.context? k
            else (t.context? k).map fun y => { y with state := .halted, haltCause := some .glare }) ∧
          OtherContexts k t u ∧ u.group? g = (t.group? g).map lost ∧ OtherGroups g t u ∧ u.sac = t.sac ∧
          SameEvents (t.raise (.glare g m)) u ∧ u.rse.dests = t.rse.dests ∧ u.rse.lists = t.rse.lists ∧
          u.rse.sweep = t.rse.sweep ∧ u.clk = t.clk ∧ u.rte = t.rte ∧ u.pending = t.pending))

/-- The called digits are matched by longest prefix among the occupied entries, and match nothing exactly when no entry is a prefix
(R52). -/
def Obligations.CalledDigitsMatchLongestPrefix : Prop :=
  ∀ (called : List Nat) (t : Table Dest),
    (∀ i d, matchDest called t = some (i, d) →
      (i, d) ∈ t ∧ d.digits <+: called ∧ ∀ e ∈ t, e.2.digits <+: called → e.2.digits.length ≤ d.digits.length) ∧
    (matchDest called t = none ↔ ∀ e ∈ t, ¬ e.2.digits <+: called)

/-- The order of a hunt (R10, R11): by the hunt order on an OUTGOING group, a ROTATING hunt beginning at the rotate pointer; by the
keys on a BOTH group; and each member is examined once. -/
def Obligations.HuntOrderFollowsTheGroup : Prop :=
  ∀ r : Group,
    (r.direction = .outgoing → r.huntOrder = .ascending → r.huntSequence = List.range r.size) ∧
    (r.direction = .outgoing → r.huntOrder = .descending → r.huntSequence = (List.range r.size).reverse) ∧
    (r.direction = .outgoing → r.huntOrder = .rotating → r.rotate < r.size →
      ∀ j, j < r.size → r.huntSequence[j]? = some ((r.rotate + j) % r.size)) ∧
    (r.direction = .both → r.farKey < r.localKey → r.huntSequence = (List.range r.size).reverse) ∧
    (r.direction = .both → r.localKey < r.farKey → r.huntSequence = List.range r.size) ∧
    (r.rotate ≤ r.size → r.huntSequence.Perm (List.range r.size))

/-- A ROUTE whose digits match and whose call the far mark admits walks its resolved list (R34, R35, R52, R56, R58 to R66). The first
entry that passes the five gates is granted the first eligible member of its group: the context PENDING with its out-leg, the circuit
OUT_PENDING with its seize timer running, attempts counted. Entries skipped before it raise the bypass level by R70 alone. With
every entry skipped the reply carries the six counts and the context is SPENT; a hunt that finds nothing counts attempts and
overflows and moves the score, with GROUP_LEVEL at a change of level (R63, R75). Any walk goes on after a skip with the next entry,
in the state the skip leaves (R64). The gap counter follows R86, the resolved list R100, the rotate pointer R10, the reserves R78.
When a request is taken: log 1, the model's choice. -/
def Obligations.RouteIsGrantedOnItsFirstChoice : Prop :=
  (∀ (s : State) (h : Handed) (n budget i l : Nat) (called : DigitField) (ds : List Nat) (x : Context) (d : Dest),
    Taken s (.route n budget called) h → n ≤ 4095 → readDigits 24 called = some ds → s.context? n = some x →
    x.state = .inOnly → matchDest ds s.rse.dests = some (i, d) → MarkAdmits d x.priority → ResolvesTo s d.list l →
    let routed : Context := { x with destination := some i, resolved := some l, haltCause := none }
    let allowed := max 1 (min budget 15)
    (∀ skipped e rest r m, s.list l = skipped ++ e :: rest → none ∉ gateReasons s x.priority 0 skipped →
      s.group? e.group = some r → gateReason s x.priority skipped.length e = none →
      r.huntSequence.find? (fun j => r.members[j]?.any fun c => c.state == .idle) = some m →
      ∃ t, exec (.route n budget called) s = .next t ∧
        t.lnk = s.lnk.answered 0x02 h.tag (.selection none (.granted e.group m skipped.length)) ∧
        t.context? n = some { routed with
          state := .pending, outLeg := some ⟨e.group, m, skipped.length, e.band, r.carrier, s.guards r.carrier⟩
          progress := some ⟨allowed, 1, [(e.group, m)], skipped.length⟩
          bypass := bypassOver s x.priority 0 skipped x.bypass } ∧
        OtherContexts n s t ∧ t.group? e.group = some (r.granted n m) ∧ OtherGroups e.group s t ∧
        t.dest? i = some (d.gated x.priority) ∧ OtherDests i s t ∧ t.sac = s.sac.admitted (s.guards r.carrier) ∧
        SameRoutes s t ∧ SameServices s t) ∧
    (none ∉ gateReasons s x.priority 0 (s.list l) →
      ∃ t, exec (.route n budget called) s = .next t ∧
        t.lnk = s.lnk.answered 0x02 h.tag (.selection none (.exhausted (countsOf (gateReasons s x.priority 0 (s.list l))))) ∧
        t.context? n = some { routed with
          state := .spent, progress := some ⟨allowed, 0, [], 0⟩
          bypass := bypassOver s x.priority 0 (s.list l) x.bypass } ∧
        OtherContexts n s t ∧ t.ctb = s.ctb ∧ t.dest? i = some (d.gated x.priority) ∧ OtherDests i s t ∧ t.sac = s.sac ∧
        SameRoutes s t ∧ SameServices s t) ∧
    (∀ skipped e r, s.list l = skipped ++ [e] → none ∉ gateReasons s x.priority 0 skipped → s.group? e.group = some r →
      gateReason s x.priority skipped.length e = none →
      r.huntSequence.find? (fun j => r.members[j]?.any fun c => c.state == .idle) = none →
      ∃ t, exec (.route n budget called) s = .next t ∧
        t.lnk = s.lnk.answered 0x02 h.tag
          (.selection none (.exhausted { countsOf (gateReasons s x.priority 0 skipped) with noIdle := 1 })) ∧
        t.context? n = some { routed with
          state := .spent, progress := some ⟨allowed, 0, [], 0⟩
          bypass := max (bypassOver s x.priority 0 skipped x.bypass) r.level } ∧
        OtherContexts n s t ∧ t.group? e.group = some r.overflowed ∧ OtherGroups e.group s t ∧
        t.dest? i = some (d.gated x.priority) ∧ OtherDests i s t ∧ t.sac = s.sac ∧
        SameEvents (s.overflowEvents e.group r) t ∧ t.rse.lists = s.rse.lists ∧ t.rse.sweep = s.rse.sweep ∧ t.clk = s.clk ∧
        t.rte = s.rte ∧ t.pending = s.pending)) ∧
  (∀ (s : State) (n idx : Nat) (p : Priority) (tried : List (Nat × Nat)) (e : RouteEntry) (rest : List RouteEntry) (k : Skips),
    (∀ why, gateReason s p idx e = some why →
      ∃ u, s.walk n p tried idx (e :: rest) k = u.walk n p tried (idx + 1) rest (k.count why) ∧
        u = { s with rse := { s.rse with contexts := u.rse.contexts } } ∧ OtherContexts n s u ∧
        u.context? n = (s.context? n).map fun x => { x with bypass := bypassOver s p idx [e] x.bypass }) ∧
    (∀ r, s.group? e.group = some r → gateReason s p idx e = none →
      r.huntSequence.find? (fun j => (r.members[j]?.any fun c => c.state == .idle) && !tried.contains (e.group, j)) = none →
      ∃ u, s.walk n p tried idx (e :: rest) k = u.walk n p tried (idx + 1) rest { k with noIdle := k.noIdle + 1 } ∧
        u.group? e.group = some r.overflowed ∧ OtherGroups e.group s u ∧ OtherContexts n s u ∧
        (u.context? n = (s.context? n).map fun x => { x with bypass := max x.bypass r.level }) ∧
        SameEvents (s.overflowEvents e.group r) u ∧ u.rse.dests = s.rse.dests ∧ u.rse.lists = s.rse.lists ∧
        u.rse.sweep = s.rse.sweep ∧ u.lnk = s.lnk ∧ u.clk = s.clk ∧ u.rte = s.rte ∧ u.sac = s.sac ∧
        u.pending = s.pending)) ∧
  ∀ level r first, level < 5 →
    let cell := fun column => (((reservationTable.getD level []).getD column none).map (· * r) : Option Nat)
    reserveFor level .essential first r = some 0 ∧
    reserveFor level .normal first r = cell (if first = true then 0 else 1) ∧
    reserveFor level .deferrable first r = cell (if first = true then 2 else 3)

/-- A ROUTE with no matching prefix ends NO_ROUTE, one refused at the far-mark gate FAR_CONGESTED; either leaves the context SPENT
(R35, R52, R56, R85, R86).
When a request is taken: log 1, the model's choice. -/
def Obligations.RouteWithoutSelectionIsSpent : Prop :=
  ∀ (s : State) (h : Handed) (n budget : Nat) (called : DigitField) (ds : List Nat) (x : Context),
    Taken s (.route n budget called) h → n ≤ 4095 → readDigits 24 called = some ds → s.context? n = some x → x.state = .inOnly →
    (matchDest ds s.rse.dests = none →
      ∃ t, exec (.route n budget called) s = .next t ∧ t.lnk = s.lnk.answered 0x02 h.tag (.selection none .noRoute) ∧
        t.context? n = some { x with
          state := .spent, progress := some ⟨max 1 (min budget 15), 0, [], 0⟩, haltCause := none } ∧
        OtherContexts n s t ∧ t.ctb = s.ctb ∧ t.rse.dests = s.rse.dests ∧ t.sac = s.sac ∧ SameRoutes s t ∧ SameServices s t) ∧
    (∀ i d, matchDest ds s.rse.dests = some (i, d) →
      (x.priority = .normal ∧ d.mark = 2 ∧ d.gap ≠ 0 ∨ x.priority = .deferrable ∧ d.mark ≠ 0) →
      ∃ t, exec (.route n budget called) s = .next t ∧ t.lnk = s.lnk.answered 0x02 h.tag (.selection none .farCongested) ∧
        t.context? n = some { x with
          state := .spent, destination := some i, progress := some ⟨max 1 (min budget 15), 0, [], 0⟩, haltCause := none } ∧
        OtherContexts n s t ∧
        t.dest? i = some { d with
          gap := if x.priority = .normal then (if d.gap = 3 then 0 else d.gap + 1) else d.gap } ∧
        OtherDests i s t ∧ t.ctb = s.ctb ∧ t.sac = s.sac ∧ SameRoutes s t ∧ SameServices s t)

/-- CONTINUE of a HALTED context (R35, R39, R57, R66, R68, R69): with the budget used up it goes to SPENT with EXHAUSTED, reason
BUDGET. Otherwise a vacant place ends the crankback NO_ROUTE and a mark that refuses the call FAR_CONGESTED; the walk of the stored
list starts at the resume index, passes over the circuits tried, and a grant leaves the context PENDING with a further attempt used;
without one it is SPENT and the six counts are those of the entries from the resume index on.
When a request is taken: log 1, the model's choice. -/
def Obligations.ContinueTriesWithinTheBudget : Prop :=
  ∀ (s : State) (h : Handed) (n : Nat) (x : Context) (y : Progress),
    Taken s (.continueCall n) h → n ≤ 4095 → s.context? n = some x → x.state = .halted → x.progress = some y →
    let spent : Context := { x with state := .spent, haltCause := none }
    (y.used = y.budget →
      ∃ t, exec (.continueCall n) s = .next t ∧ t.lnk = s.lnk.answered 0x03 h.tag (.selection none .overBudget) ∧
        t.context? n = some spent ∧ OtherContexts n s t ∧ t.ctb = s.ctb ∧
        t.rse.dests = s.rse.dests ∧ t.sac = s.sac ∧ SameRoutes s t ∧ SameServices s t) ∧
    (∀ i l, y.used < y.budget → x.destination = some i → x.resolved = some l →
      (s.dest? i = none →
        ∃ t, exec (.continueCall n) s = .next t ∧ t.lnk = s.lnk.answered 0x03 h.tag (.selection none .noRoute) ∧
          t.context? n = some spent ∧ OtherContexts n s t ∧ t.ctb = s.ctb ∧ t.rse.dests = s.rse.dests ∧ t.sac = s.sac ∧
          SameRoutes s t ∧ SameServices s t) ∧
      (∀ d, s.dest? i = some d → ¬ MarkAdmits d x.priority →
        ∃ t, exec (.continueCall n) s = .next t ∧ t.lnk = s.lnk.answered 0x03 h.tag (.selection none .farCongested) ∧
          t.context? n = some spent ∧ OtherContexts n s t ∧ t.ctb = s.ctb ∧ t.dest? i = some (d.gated x.priority) ∧
          OtherDests i s t ∧ t.sac = s.sac ∧ SameRoutes s t ∧ SameServices s t) ∧
      (∀ d, s.dest? i = some d → MarkAdmits d x.priority →
        let left := (s.list l).drop y.resume
        (∀ skipped e rest r m, left = skipped ++ e :: rest → none ∉ gateReasons s x.priority y.resume skipped →
          s.group? e.group = some r → gateReason s x.priority (y.resume + skipped.length) e = none →
          r.huntSequence.find? (fun j =>
            (r.members[j]?.any fun c => c.state == .idle) && !y.tried.contains (e.group, j)) = some m →
          ∃ t, exec (.continueCall n) s = .next t ∧
            t.lnk = s.lnk.answered 0x03 h.tag (.selection none (.granted e.group m (y.resume + skipped.length))) ∧
            t.context? n = some { x with
              state := .pending
              outLeg := some ⟨e.group, m, y.resume + skipped.length, e.band, r.carrier, s.guards r.carrier⟩
              progress := some ⟨y.budget, y.used + 1, y.tried ++ [(e.group, m)], y.resume + skipped.length⟩
              bypass := bypassOver s x.priority y.resume skipped x.bypass, haltCause := none } ∧
            OtherContexts n s t ∧ t.group? e.group = some (r.granted n m) ∧ OtherGroups e.group s t ∧
            t.dest? i = some (d.gated x.priority) ∧ OtherDests i s t ∧ t.sac = s.sac.admitted (s.guards r.carrier) ∧
            SameRoutes s t ∧ SameServices s t) ∧
        (none ∉ gateReasons s x.priority y.resume left →
          ∃ t, exec (.continueCall n) s = .next t ∧
            t.lnk = s.lnk.answered 0x03 h.tag
              (.selection none (.exhausted (countsOf (gateReasons s x.priority y.resume left)))) ∧
            t.context? n = some { spent with bypass := bypassOver s x.priority y.resume left x.bypass } ∧
            OtherContexts n s t ∧ t.ctb = s.ctb ∧ t.dest? i = some (d.gated x.priority) ∧ OtherDests i s t ∧ t.sac = s.sac ∧
            SameRoutes s t ∧ SameServices s t) ∧
        (∀ skipped e r, left = skipped ++ [e] → none ∉ gateReasons s x.priority y.resume skipped →
          s.group? e.group = some r → gateReason s x.priority (y.resume + skipped.length) e = none →
          r.huntSequence.find? (fun j =>
            (r.members[j]?.any fun c => c.state == .idle) && !y.tried.contains (e.group, j)) = none →
          ∃ t, exec (.continueCall n) s = .next t ∧
            t.lnk = s.lnk.answered 0x03 h.tag
              (.selection none (.exhausted { countsOf (gateReasons s x.priority y.resume skipped) with noIdle := 1 })) ∧
            t.context? n = some { spent with
              bypass := max (bypassOver s x.priority y.resume skipped x.bypass) r.level } ∧
            OtherContexts n s t ∧ t.group? e.group = some r.overflowed ∧ OtherGroups e.group s t ∧
            t.dest? i = some (d.gated x.priority) ∧ OtherDests i s t ∧ t.sac = s.sac ∧
            SameEvents (s.overflowEvents e.group r) t ∧ t.rse.lists = s.rse.lists ∧ t.rse.sweep = s.rse.sweep ∧
            t.clk = s.clk ∧ t.rte = s.rte ∧ t.pending = s.pending)))

/-- CONFIRM of a PENDING context's out-leg: the context ESTABLISHED, the circuit OUT_BUSY with its seize timer stopped and its block
pending kept (R36).
When a request is taken: log 1, the model's choice. -/
def Obligations.ConfirmEstablishesTheCall : Prop :=
  ∀ (s : State) (h : Handed) (n g m : Nat) (x : Context) (o : OutLeg) (r : Group) (c : Circuit),
    Taken s (.confirm n g m) h → n ≤ 4095 → s.context? n = some x → x.state = .pending → x.outLeg = some o → o.group = g →
    o.member = m → s.group? g = some r → r.members[m]? = some c → c.state = .outPending →
    ∃ t, exec (.confirm n g m) s = .next t ∧ t.lnk = s.lnk.answered 0x04 h.tag (.accepted .plain) ∧
      t.context? n = some { x with state := .established } ∧ OtherContexts n s t ∧
      t.group? g = some { r with members := r.members.set m { c with state := .outBusy, seizeTimer := none } } ∧
      OtherGroups g s t ∧ t.rse.dests = s.rse.dests ∧ t.sac = s.sac ∧ SameRoutes s t ∧ SameServices s t

/-- A CONFIRM or FAIL that is not for the out-leg of a PENDING context is refused by the table of 2.2, and changes nothing (R32, R36,
R37).
When a request is taken: log 1, the model's choice. -/
def Obligations.ReportsAreRefusedByTheTable : Prop :=
  ∀ (s : State) (h : Handed) (n g m cause again : Nat) (c : Instr) (code : Byte) (r : Group) (d : Deny),
    (c = .confirm n g m ∧ code = 0x04) ∨ (c = .failCall n g m cause again ∧ code = 0x05 ∧ cause ≤ 2 ∧ again ≤ 1) →
    Taken s c h → n ≤ 4095 → s.group? g = some r → m < r.size →
    (s.context? n = none ∧ d = .wrongState ∨
      ∃ x, s.context? n = some x ∧
        ((x.state = .inOnly ∨ x.state = .spent) ∧ d = .wrongState ∨ x.state = .halted ∧ d = .halted ∨
          ∃ o, x.outLeg = some o ∧
            ((x.state = .pending ∨ x.state = .established ∨ x.state = .answered) ∧ ¬ (o.group = g ∧ o.member = m) ∧ d = .stale ∨
              (x.state = .established ∨ x.state = .answered) ∧ o.group = g ∧ o.member = m ∧ d = .wrongState))) →
    exec c s = .next { s with lnk := s.lnk.answered code h.tag (.denied d) }

/-- A FAIL taken halts the context without its out-leg (R12, R13, R37): a fault leaves the circuit BLOCKED with its fault mark,
raises CIRCUIT_TROUBLE and leaves the resume index where it was; a far failure releases the circuit and moves the resume index to the
next entry. A DRAINING group with no busy circuit left enters BLOCKED (R20, R21). With the continue flag set the failure is followed
at once by CONTINUE, whose outcome the reply carries with the halt cause (R38).
When a request is taken: log 1, the model's choice. -/
def Obligations.FailHaltsTheContext : Prop :=
  (∀ (s : State) (h : Handed) (n g m cause : Nat) (x : Context) (y : Progress) (o : OutLeg) (r : Group) (c : Circuit),
    Taken s (.failCall n g m cause 0) h → n ≤ 4095 → s.context? n = some x → x.state = .pending → x.outLeg = some o →
    o.group = g → o.member = m → x.progress = some y → s.group? g = some r → r.members[m]? = some c → c.state = .outPending →
    (∀ hc, (cause = 1 ∧ hc = .farCongestion ∨ cause = 2 ∧ hc = .farRefused) →
      let after : Group := { r with members := r.members.set m (releasedAs r c) }
      ∃ t, exec (.failCall n g m cause 0) s = .next t ∧
        t.lnk = s.lnk.answered 0x05 h.tag (.accepted (.failed hc (y.budget - y.used))) ∧
        t.context? n = some { x with
          state := .halted, outLeg := none, haltCause := some hc, progress := some { y with resume := o.entry + 1 } } ∧
        OtherContexts n s t ∧ t.group? g = some (drainedAs after) ∧ SameEvents (s.drainEvents g after) t ∧
        OtherGroups g s t ∧ t.sac = s.sac.settled o.guarded ∧ t.rse.dests = s.rse.dests ∧ t.rse.lists = s.rse.lists ∧
        t.rse.sweep = s.rse.sweep ∧ t.clk = s.clk ∧ t.rte = s.rte ∧ t.pending = s.pending) ∧
    (cause = 0 →
      let after : Group := { r with
        members := r.members.set m ⟨.blocked, false, true, none, none, none⟩
        tallies := { r.tallies with faults := min (r.tallies.faults + 1) 4294967295 } }
      ∃ t, exec (.failCall n g m cause 0) s = .next t ∧
        t.lnk = s.lnk.answered 0x05 h.tag (.accepted (.failed .fault (y.budget - y.used))) ∧
        t.context? n = some { x with state := .halted, outLeg := none, haltCause := some .fault } ∧ OtherContexts n s t ∧
        t.group? g = some (drainedAs after) ∧ SameEvents ((s.raise (.circuitTrouble g m .fault)).drainEvents g after) t ∧
        OtherGroups g s t ∧ t.sac = s.sac.settled o.guarded ∧ t.rse.dests = s.rse.dests ∧ t.rse.lists = s.rse.lists ∧
        t.rse.sweep = s.rse.sweep ∧ t.clk = s.clk ∧ t.rte = s.rte ∧ t.pending = s.pending)) ∧
  (∀ (s : State) (h : Handed) (n g m cause : Nat) (x : Context) (o : OutLeg) (r : Group) (hc : HaltCause),
    Taken s (.failCall n g m cause 1) h → n ≤ 4095 → s.context? n = some x → x.state = .pending → x.outLeg = some o →
    o.group = g → o.member = m → s.group? g = some r → m < r.size →
    (cause = 0 ∧ hc = .fault ∨ cause = 1 ∧ hc = .farCongestion ∨ cause = 2 ∧ hc = .farRefused) →
    ∃ f t out, exec (.failCall n g m cause 0)
        { s with lnk := { s.lnk with handed := some ⟨h.tag, h.arrival, .failCall n g m cause 0⟩ } } = .next f ∧
      exec (.continueCall n) { f with lnk := { s.lnk with handed := some ⟨h.tag, h.arrival, .continueCall n⟩ } } = .next t ∧
      t.lnk = s.lnk.answered 0x03 h.tag (.selection none out) ∧
      exec (.failCall n g m cause 1) s = .next { t with lnk := s.lnk.answered 0x05 h.tag (.selection (some hc) out) })

/-- ANSWER of an ESTABLISHED context: ANSWERED with the request's arrival count; in any other state WRONG_STATE, and a stamp already
present is kept (R42).
When a request is taken: log 1, the model's choice. -/
def Obligations.AnswerStampsTheArrival : Prop :=
  ∀ (s : State) (h : Handed) (n : Nat), Taken s (.answer n) h → n ≤ 4095 →
    (∀ x, s.context? n = some x → x.state = .established →
      ∃ t, exec (.answer n) s = .next t ∧ t.lnk = s.lnk.answered 0x06 h.tag (.accepted .plain) ∧
        t.context? n = some { x with state := .answered, answerStamp := some h.arrival } ∧ OtherContexts n s t ∧
        t.ctb = s.ctb ∧ t.rse.dests = s.rse.dests ∧ t.sac = s.sac ∧ SameRoutes s t ∧ SameServices s t) ∧
    ((∀ x, s.context? n = some x → x.state ≠ .established) →
      exec (.answer n) s = .next { s with lnk := s.lnk.answered 0x06 h.tag (.denied .wrongState) })

/-- RELEASE of an unanswered context (R12, R43, R45): the circuit of each leg released, each chargeable leg counted unanswered in its
account and its guarded place given back, the context FREE. A release that leaves a DRAINING group with no busy circuit brings it to
BLOCKED, with score 0, its sample timer stopped, GROUP_LEVEL at a change of level and GROUP_DRAINED (R20, R21).
When a request is taken: log 1, the model's choice. -/
def Obligations.ReleaseCountsUnansweredLegs : Prop :=
  ∀ (s : State) (h : Handed) (n : Nat) (x : Context),
    Taken s (.release n) h → n ≤ 4095 → s.context? n = some x → x.state ≠ .answered →
    ∃ t, exec (.release n) s = .next t ∧
      t.lnk = s.lnk.answered 0x07 h.tag (.accepted (.released x.unansweredEntries)) ∧ EndedUnanswered x s t ∧
      t.context? n = none ∧ OtherContexts n s t ∧ LegsEnded releasedAs x s id s t ∧ GroupsBeside x s t ∧
      t.rse.dests = s.rse.dests ∧ t.rse.lists = s.rse.lists ∧ t.rse.sweep = s.rse.sweep ∧ t.enu.kinds = s.enu.kinds ∧
      t.enu.elevated = s.enu.elevated ∧ t.clk = s.clk ∧ t.rte = s.rte ∧ t.pending = s.pending

/-- RELEASE of an ANSWERED context. The circuit of each leg goes to GUARD, IDLE or BLOCKED as in any release, with the drain of a
DRAINING group (R12, R20, R21, R43). Then its chargeable legs are rated with the release's arrival count, the in-leg complete before
the out-leg, so that its record has the lower sequence number and stands first (R43, R44, R135). Each leg's record goes to the end of
the queue where it has its own place or room exists, and is lost otherwise, counted in the account, its sequence number used up and
its charge kept (R159, R162, R163); the account takes the charge and is locked (R140, R141); after an OUT leg the standing is
re-evaluated (R146). The events are those of the drains and then, leg by leg, ACCOUNT_SATURATED, RECORD_HIGH or RECORD_LOST, and
CARRIER_STANDING, and no others (R21, R135, R141, R146, R163, R165); the context is FREE.
When a request is taken: log 1, the model's choice. -/
def Obligations.ReleaseRatesTheOutLeg : Prop :=
  ∀ (s : State) (h : Handed) (n : Nat) (x : Context) (stamp : Count),
    Taken s (.release n) h → n ≤ 4095 → s.context? n = some x → x.state = .answered → x.answerStamp = some stamp →
    x.RatedInto stamp h.arrival false s fun entries sac events =>
      ∃ t, exec (.release n) s = .next t ∧ t.lnk = s.lnk.answered 0x07 h.tag (.accepted (.released entries)) ∧ t.sac = sac ∧
        t.context? n = none ∧ OtherContexts n s t ∧ LegsEnded releasedAs x s events s t ∧ GroupsBeside x s t ∧
        t.rse.dests = s.rse.dests ∧ t.rse.lists = s.rse.lists ∧ t.rse.sweep = s.rse.sweep ∧ t.enu.kinds = s.enu.kinds ∧
        t.enu.elevated = s.enu.elevated ∧ t.clk = s.clk ∧ t.rte = s.rte ∧ t.pending = s.pending

/-- The billed seconds of a leg (R124, R125): for a minimum of at most 600 and an increment of table 7.1, they are a multiple of the
increment, at most 86,400, and without the clamp less than one increment above the seconds; the clamp applies exactly to calls
longer than 864,000 ds. -/
def Obligations.BilledSecondsAreWholeIncrements : Prop :=
  ∀ d minimum increment : Nat, minimum ≤ 600 → increment ∈ increments →
    let s := secondsOf d minimum
    let billed := billedOf s increment
    s = max ((d + 9) / 10) minimum ∧ increment ∣ billed ∧ billed ≤ 86400 ∧
    (isClamped s increment = true ↔ 864000 < d) ∧
    (isClamped s increment = false → s ≤ billed ∧ billed < s + increment) ∧ (isClamped s increment = true → billed = 86400)

/-- The charge of a leg (R129 to R133): Base is N / 600 rounded half up, Adj is Base times the factor in percent rounded half up,
Total adds the fee and is capped; with rates and fee below 65,536, a factor of at most 400 and times summing to at most 864,000
they stay within the bounds of 7.3. The result of a leg's rating puts the stages together (R120 to R128, R134, R158): the duration
modulo 2^32, the billed seconds, the factor and level of its direction, the span that starts at R - d, or at R - 864,000 when
CLAMPED, all of it period 0 and no answer instant when the clock is UNSET, the period list in ascending order with times that sum
to 10 x S, the charge, and the four flags. The instant of a stamp is the present ds of day less the count elapsed since (R108); that
the present is 864,000 while a midnight is due is the model's choice (log 7). -/
def Obligations.ChargeStaysWithinItsBounds : Prop :=
  (∀ (t : Tariff) (band factor : Nat) (times : List Nat),
    (∀ p, t.rate band p ≤ 65535) → times.length = 4 → times.sum ≤ 864000 → factor ≤ 400 → t.fee ≤ 65535 →
    let n := sumOf t band times
    let base := baseOf n
    let adj := adjOf base factor
    n = times.getD 0 0 * t.rate band 0 + times.getD 1 0 * t.rate band 1 + times.getD 2 0 * t.rate band 2 +
      times.getD 3 0 * t.rate band 3 ∧
    n ≤ 56622240000 ∧ 600 * base ≤ n + 300 ∧ n + 300 < 600 * (base + 1) ∧ base ≤ 94370400 ∧
    100 * adj ≤ base * factor + 50 ∧ base * factor + 50 < 100 * (adj + 1) ∧ adj ≤ 377481600 ∧
    totalOf adj t.fee t.cap = (if t.cap ≠ 0 ∧ t.cap < adj + t.fee then t.cap else adj + t.fee) ∧
    totalOf adj t.fee t.cap ≤ 377547135) ∧
  ∀ (c : Clk) (t : Tariff) (leg : Leg) (callRef : BitVec 32) (answer release : Count) (cut : Bool) (sequence : BitVec 32)
    (period : Nat),
    t.minimum ≤ 600 → t.increment ∈ increments → c.work.sound → c.rest.sound →
    let x := rateRecord c t leg callRef answer release cut sequence period
    let d := (release.toNat + 4294967296 - answer.toNat) % 4294967296
    let instant := fun stamp : Count =>
      (if c.midnightDue = true then (864000 : Int) else (c.ds : Int)) - ((c.count - stamp).toNat : Int)
    let billed := billedOf (secondsOf d t.minimum) t.increment
    let start := instant release - (if 864000 < d then (864000 : Int) else (d : Int))
    let time := fun p : Nat => if c.clock = .unset then (if p = 0 then 10 * billed else 0) else c.timeIn start (10 * billed) p
    let adj := fun factor : Nat => adjOf (baseOf (sumOf t leg.band [time 0, time 1, time 2, time 3])) factor
    x.duration = d ∧ x.billed = billed ∧ x.clamped = decide (864000 < d) ∧ x.clockUnset = decide (c.clock = .unset) ∧
    x.restartCut = cut ∧
    (c.clock = .unset → x.answerAt = none) ∧
    (c.clock = .set → ∃ weekday ds, x.answerAt = some (weekday, ds) ∧ weekday < 7 ∧ ds < 864000 ∧
      (weekday : Int) = ((c.weekday : Int) + instant answer / 864000) % 7 ∧ (ds : Int) = instant answer % 864000) ∧
    (leg.direction = .inLeg → x.factor = 100 ∧ x.level = 0) ∧
    (∀ level : Fin 5, leg.direction = .outLeg → leg.level = level.val → x.factor = t.factors[level] ∧ x.level = level.val) ∧
    (billed = 0 → x.periods = [(if c.clock = .unset then 0 else c.periodAt (instant release), 0)]) ∧
    (billed ≠ 0 → ∀ p ds, (p, ds) ∈ x.periods ↔ p < 4 ∧ ds = time p ∧ ds ≠ 0) ∧
    (x.periods.map Prod.fst).Pairwise (· < ·) ∧ 1 ≤ x.periods.length ∧ x.periods.length ≤ 4 ∧
    (x.periods.map Prod.snd).sum = 10 * billed ∧
    x.charge = totalOf (adj x.factor) t.fee t.cap ∧ x.capped = decide (t.cap ≠ 0 ∧ t.cap < adj x.factor + t.fee) ∧
    x.sequence = sequence ∧ x.callRef = callRef ∧ x.carrier = leg.index.val + 1 ∧ x.direction = leg.direction ∧
    x.group = leg.group ∧ x.member = leg.member ∧ x.band = leg.band ∧ x.fee = t.fee ∧ x.generation = t.generation ∧
    x.period = period

/-- The time a span spends in a period is the number of its instants in that period, for a span of at most 864,000 ds and schedules
whose boundaries rise strictly (R112, R113). -/
def Obligations.PeriodTimesCountInstants : Prop :=
  ∀ (c : Clk) (a : Int) (len p : Nat), len ≤ 864000 →
    (∀ x, (x = c.work ∨ x = c.rest) →
      (x.boundaries.map Prod.fst).Pairwise (· < ·) ∧ ∀ b ∈ x.boundaries, 1 ≤ b.1 ∧ b.1 ≤ 1439) →
    c.timeIn a len p = ((List.range len).filter fun k => c.periodAt (a + (k : Int)) = p).length

/-! ### Trunk groups -/

/-- GROUP_DEFINE (R1 to R5): a size above 0 creates or redefines an undefined or BLOCKED group, its clamped fields in range, BLOCKED
with score 0 and every circuit IDLE; size 0 deletes a BLOCKED group; a group in service or draining is refused with GROUP_BUSY.
When a request is taken: log 1, the model's choice. -/
def Obligations.GroupDefineMakesTheGroup : Prop :=
  ∀ (s : State) (h : Handed) (f : GroupFields) (dir : Direction) (hunt : HuntOrder),
    Taken s (.groupDefine f) h → f.group ≤ 255 → f.first ≤ 16383 → f.size ≤ 1024 → decodeDirection f.direction = some dir →
    f.carrier ≤ 63 → f.inboundBand ≤ 7 → decodeHuntOrder f.huntOrder = some hunt → (dir = .both → f.localKey ≠ f.farKey) →
    (0 < f.size → f.first + f.size ≤ 16384 → (∀ r, s.group? f.group = some r → r.state = .blocked) →
      (∀ x ∈ s.ctb.groups, x.1 ≠ f.group → runsOverlap f.first f.size x.2.first x.2.size = false) →
      ∃ t, exec (.groupDefine f) s = .next t ∧ t.lnk = s.lnk.answered 0x10 h.tag (.accepted .plain) ∧
        t.group? f.group = some
          { first := f.first, direction := dir, carrier := f.carrier, inboundBand := f.inboundBand, huntOrder := hunt
            localKey := f.localKey, farKey := f.farKey, reservation := min f.reservation f.size
            loadThreshold := max 1 (min f.loadThreshold f.size), sampleInterval := max 10 (min f.sampleInterval 600)
            guardTime := min f.guardTime 50, seizeTimeout := max 20 (min f.seizeTimeout 600), state := .blocked, rotate := 0
            tallies := ⟨0, 0, 0, 0, 0, 0⟩, members := List.replicate f.size ⟨.idle, false, false, none, none, none⟩, score := 0
            sampleTimer := none } ∧
        OtherGroups f.group s t ∧ SameOutsideCtb s t) ∧
    (∀ r, f.size = 0 → s.group? f.group = some r → r.state = .blocked →
      ∃ t, exec (.groupDefine f) s = .next t ∧ t.lnk = s.lnk.answered 0x10 h.tag (.accepted .plain) ∧
        t.group? f.group = none ∧ OtherGroups f.group s t ∧ SameOutsideCtb s t) ∧
    (f.size = 0 → s.group? f.group = none →
      exec (.groupDefine f) s = .next { s with lnk := s.lnk.answered 0x10 h.tag (.badField 2 0xFF 0) }) ∧
    (∀ r, f.first + f.size ≤ 16384 → s.group? f.group = some r → r.state ≠ .blocked →
      exec (.groupDefine f) s = .next { s with lnk := s.lnk.answered 0x10 h.tag (.denied .groupBusy) })

/-- GROUP_BLOCK and GROUP_UNBLOCK (R20 to R22): a group in service goes to BLOCKED with score 0 and its sample timer stopped when
it has no busy circuit, with GROUP_LEVEL at a change of level and then GROUP_DRAINED, to DRAINING otherwise; a DRAINING or BLOCKED
group returns to service with its sample timer at the full interval; a request that finds nothing to do is accepted and changes
nothing.
When a request is taken: log 1, the model's choice. -/
def Obligations.GroupBlockAndUnblock : Prop :=
  ∀ (s : State) (h : Handed) (g : Nat) (r : Group), s.group? g = some r →
    (Taken s (.groupBlock g) h →
      (r.state = .inService → r.busy = 0 →
        ∃ t, exec (.groupBlock g) s = .next t ∧ t.lnk = s.lnk.answered 0x11 h.tag (.accepted .plain) ∧
          t.group? g = some { r with state := .blocked, score := 0, sampleTimer := none } ∧ OtherGroups g s t ∧
          SameEvents ((if r.level = 0 then s else s.raise (.groupLevel g 0)).raise (.groupDrained g)) t ∧
          t.rse.contexts = s.rse.contexts ∧ t.rse.dests = s.rse.dests ∧ t.rse.lists = s.rse.lists ∧ t.rse.sweep = s.rse.sweep ∧
          t.clk = s.clk ∧ t.rte = s.rte ∧ t.sac = s.sac ∧ t.pending = s.pending) ∧
      (r.state = .inService → 0 < r.busy →
        ∃ t, exec (.groupBlock g) s = .next t ∧ t.lnk = s.lnk.answered 0x11 h.tag (.accepted .plain) ∧
          t.group? g = some { r with state := .draining } ∧ OtherGroups g s t ∧ SameOutsideCtb s t) ∧
      (r.state ≠ .inService →
        exec (.groupBlock g) s = .next { s with lnk := s.lnk.answered 0x11 h.tag (.accepted .plain) })) ∧
    (Taken s (.groupUnblock g) h →
      (r.state ≠ .inService →
        ∃ t, exec (.groupUnblock g) s = .next t ∧ t.lnk = s.lnk.answered 0x12 h.tag (.accepted .plain) ∧
          t.group? g = some { r with state := .inService, sampleTimer := some r.sampleInterval } ∧ OtherGroups g s t ∧
          SameOutsideCtb s t) ∧
      (r.state = .inService →
        exec (.groupUnblock g) s = .next { s with lnk := s.lnk.answered 0x12 h.tag (.accepted .plain) }))

/-- CIRCUIT_BLOCK and CIRCUIT_UNBLOCK by the circuit's state (R18, R19).
When a request is taken: log 1, the model's choice. -/
def Obligations.CircuitBlockAndUnblock : Prop :=
  ∀ (s : State) (h : Handed) (g m : Nat) (r : Group) (c : Circuit), s.group? g = some r → r.members[m]? = some c →
    (Taken s (.circuitBlock g m) h →
      ∃ t, exec (.circuitBlock g m) s = .next t ∧ t.lnk = s.lnk.answered 0x13 h.tag (.accepted .plain) ∧
        t.group? g = some { r with members := r.members.set m (if c.state = .idle ∨ c.state = .guard
          then ⟨.blocked, false, false, none, none, none⟩
          else if c.state = .blocked then c else { c with blockPending := true }) } ∧
        OtherGroups g s t ∧ SameOutsideCtb s t) ∧
    (Taken s (.circuitUnblock g m) h →
      ∃ t, exec (.circuitUnblock g m) s = .next t ∧ t.lnk = s.lnk.answered 0x14 h.tag (.accepted .plain) ∧
        t.group? g = some { r with members := r.members.set m (if c.state = .blocked
          then ⟨.idle, false, false, none, none, none⟩
          else if c.state = .idle ∨ c.state = .guard then c else { c with blockPending := false }) } ∧
        OtherGroups g s t ∧ SameOutsideCtb s t)

/-- A change of one circuit moves busy and idle exactly by its old and new state, and busy + idle never exceeds the size (R7). -/
def Obligations.BusyAndIdleFollowTheCircuits : Prop :=
  ∀ (r : Group) (m : Nat) (c d : Circuit), r.members[m]? = some c →
    (r.setCircuit m d).busy + (if c.state.isBusy = true then 1 else 0) = r.busy + (if d.state.isBusy = true then 1 else 0) ∧
    (r.setCircuit m d).idle + (if c.state = .idle then 1 else 0) = r.idle + (if d.state = .idle then 1 else 0) ∧
    (r.setCircuit m d).size = r.size ∧ r.busy + r.idle ≤ r.size

/-! ### Routing tables -/

/-- DEST_SET gives the entry of its prefix a new list, or takes the lowest vacant place, or is refused with TABLE_FULL; DEST_CLEAR makes
the entry's place vacant, or answers NO_ROUTE (R50, R51). No two occupied places share a prefix, after every step (R50).
When a request is taken: log 1, the model's choice. -/
def Obligations.DestSetAndClear : Prop :=
  (∀ s t : State, s.prefixesDistinct → step s = .next t → t.prefixesDistinct) ∧
  ∀ (s : State) (h : Handed) (digits : DigitField) (list : Nat) (ds : List Nat), readDigits 16 digits = some ds →
    (Taken s (.destSet digits list) h → list ≤ 1023 →
      (∀ i d, s.dest? i = some d → d.digits = ds → s.prefixesDistinct →
        ∃ t, exec (.destSet digits list) s = .next t ∧ t.lnk = s.lnk.answered 0x18 h.tag (.accepted (.dest i)) ∧
          t.dest? i = some { d with list } ∧ OtherDests i s t ∧ t.ctb = s.ctb ∧ t.rse.contexts = s.rse.contexts ∧ t.sac = s.sac ∧
          SameRoutes s t ∧ SameServices s t) ∧
      (∀ i, (∀ e ∈ s.rse.dests, e.2.digits ≠ ds) → i < 4096 → s.dest? i = none → (∀ k, k < i → s.dest? k ≠ none) →
        ∃ t, exec (.destSet digits list) s = .next t ∧ t.lnk = s.lnk.answered 0x18 h.tag (.accepted (.dest i)) ∧
          t.dest? i = some ⟨ds, list, 0, none, 0⟩ ∧ OtherDests i s t ∧ t.ctb = s.ctb ∧ t.rse.contexts = s.rse.contexts ∧
          t.sac = s.sac ∧ SameRoutes s t ∧ SameServices s t) ∧
      ((∀ e ∈ s.rse.dests, e.2.digits ≠ ds) → (∀ k, k < 4096 → s.dest? k ≠ none) →
        exec (.destSet digits list) s = .next { s with lnk := s.lnk.answered 0x18 h.tag (.denied .tableFull) })) ∧
    (Taken s (.destClear digits) h →
      (∀ i d, s.dest? i = some d → d.digits = ds → s.prefixesDistinct →
        ∃ t, exec (.destClear digits) s = .next t ∧ t.lnk = s.lnk.answered 0x19 h.tag (.accepted (.dest i)) ∧
          t.dest? i = none ∧ OtherDests i s t ∧ t.ctb = s.ctb ∧ t.rse.contexts = s.rse.contexts ∧ t.sac = s.sac ∧
          SameRoutes s t ∧ SameServices s t) ∧
      ((∀ e ∈ s.rse.dests, e.2.digits ≠ ds) →
        exec (.destClear digits) s = .next { s with lnk := s.lnk.answered 0x19 h.tag (.selection none .noRoute) }))

/-- LIST_SET replaces one route list (R53); FAR_MARK clears a destination's mark with level 0 and sets or refreshes it with level 1 or
2, the timer clamped and the gap counter 0 only when the mark was clear (R81 to R83).
When a request is taken: log 1, the model's choice. -/
def Obligations.ListSetAndFarMark : Prop :=
  (∀ (s : State) (h : Handed) (list : Nat) (entries : List (Nat × Nat)), Taken s (.listSet list entries) h → list ≤ 1023 →
    1 ≤ entries.length → entries.length ≤ 8 → (∀ e ∈ entries, e.1 ≤ 255 ∧ e.2 ≤ 7) →
    ∃ t, exec (.listSet list entries) s = .next t ∧ t.lnk = s.lnk.answered 0x1A h.tag (.accepted .plain) ∧
      t.list list = entries.map (fun e => ⟨e.1, e.2⟩) ∧ (∀ k, k ≠ list → t.list k = s.list k) ∧ t.ctb = s.ctb ∧
      t.rse.contexts = s.rse.contexts ∧ t.rse.dests = s.rse.dests ∧ t.rse.slots = s.rse.slots ∧ t.rse.sweep = s.rse.sweep ∧
      t.sac = s.sac ∧ SameServices s t) ∧
  (∀ (s : State) (h : Handed) (digits : DigitField) (level duration i : Nat) (ds : List Nat) (d : Dest),
    Taken s (.farMark digits level duration) h → readDigits 16 digits = some ds → level ≤ 2 → s.dest? i = some d →
    d.digits = ds → s.prefixesDistinct →
    ∃ t, exec (.farMark digits level duration) s = .next t ∧ t.lnk = s.lnk.answered 0x08 h.tag (.accepted (.marked i d.mark)) ∧
      t.dest? i = some (if level = 0 then { d with mark := 0, markTimer := none }
        else { d with
          mark := level, markTimer := some (max 50 (min duration 600)), gap := if d.mark = 0 then 0 else d.gap }) ∧
      OtherDests i s t ∧ t.ctb = s.ctb ∧ t.rse.contexts = s.rse.contexts ∧ t.sac = s.sac ∧ SameRoutes s t ∧ SameServices s t)

/-! ### Overlays -/

/-- OVERLAY_SET replaces a DISARMED slot's definition, which stays DISARMED, and is refused with SLOT_ACTIVE in another state (R91).
When a request is taken: log 1, the model's choice. -/
def Obligations.OverlaySetDefinesTheSlot : Prop :=
  ∀ (s : State) (h : Handed) (f : OverlayFields) (i : Fin 16) (trigger : Trigger) (revert : Revert),
    Taken s (.overlaySet f) h → f.slot = i.val → f.base ≤ 1023 → f.substitute ≤ 1023 → decodeRevert f.revert = some revert →
    (f.trigger = 0 ∧ trigger = .manual ∨
      f.trigger = 1 ∧ f.group ≤ 255 ∧ 1 ≤ f.level ∧ f.level ≤ 4 ∧ trigger = .groupLevel f.group f.level ∨
      f.trigger = 2 ∧ 1 ≤ f.carrier ∧ f.carrier ≤ 63 ∧
        (f.standing = 1 ∧ trigger = .carrierStanding f.carrier .watch ∨
          f.standing = 2 ∧ trigger = .carrierStanding f.carrier .suspended) ∨
      f.trigger = 3 ∧ trigger = .recordHigh) →
    (s.rse.slots[i].state = .disarmed →
      exec (.overlaySet f) s = .next { s with
        lnk := s.lnk.answered 0x20 h.tag (.accepted .plain)
        rse := { s.rse with slots := s.rse.slots.set i ⟨f.base, f.substitute, trigger, revert, .disarmed⟩ } }) ∧
    (s.rse.slots[i].state ≠ .disarmed →
      exec (.overlaySet f) s = .next { s with lnk := s.lnk.answered 0x20 h.tag (.denied .slotActive) })

/-- OVERLAY_ARM, _DISARM, _FIRE and _REVERT move the slot's state as R95 to R98 give, ARM going to ACTIVE at once when its condition
holds. A change into or out of ACTIVE raises OVERLAY with the new state and the cause ARM, FIRE, REVERT or DISARM, which makes a
notice and is never handed to the slots (R93); a change that leaves ACTIVE out raises nothing (R99); FIRE and REVERT of a DISARMED
slot are refused.
When a request is taken: log 1, the model's choice. -/
def Obligations.OverlayRequestsMoveTheSlot : Prop :=
  ∀ (s : State) (h : Handed) (c : Instr) (i : Fin 16),
    c ∈ [Instr.overlayArm i.val, .overlayDisarm i.val, .overlayFire i.val, .overlayRevert i.val] → Taken s c h →
    (∀ code cause after, slotAfter c (conditionHolds s s.rse.slots[i].trigger) s.rse.slots[i].state = some (code, cause, after) →
      exec c s = .next { s with
        lnk := s.lnk.answered code h.tag (.accepted (.slot s.rse.slots[i].state after))
        rse := { s.rse with slots := s.rse.slots.set i { s.rse.slots[i] with state := after } }
        enu := if s.rse.slots[i].state = after ∨ (s.rse.slots[i].state ≠ .active ∧ after ≠ .active) then s.enu
          else (s.note (.overlay i.val after cause)).enu }) ∧
    (slotAfter c (conditionHolds s s.rse.slots[i].trigger) s.rse.slots[i].state = none →
      ∃ code ∈ [(0x23 : Byte), 0x24], exec c s = .next { s with lnk := s.lnk.answered code h.tag (.denied .wrongState) })

/-- What ENU makes of an event (R173). The notice first: none where the kind is disabled or routed TRIGGER, or during the start-up
clear (R179); else the event coalesces into the entry of its kind and subject, with its detail, the present stamp and one occurrence
more, or makes a new entry younger than every other, or with all 63 ordinary places taken is dropped, the drop counted in the
NOTICE_OVERFLOW entry (R175, R176). Then the slots, for a kind routed TRIGGER or BOTH: every ARMED slot that watches the event with
its condition holding is activated, every ACTIVE slot with revert AUTO whose condition does not hold reverts, every other stays (R93,
R94), and the OVERLAY events of the slots that moved follow in slot order (R99, R173). Nothing but the slots' states and the notice
queue changes. -/
def Obligations.EventsMoveTheWatchingSlots : Prop :=
  (∀ (s : State) (e : Event),
    (s.lnk.phase = .clearing ∨ (s.enu.config e.kind).enable = false ∨ (s.enu.config e.kind).route = .trigger → s.note e = s) ∧
    (s.lnk.phase ≠ .clearing → (s.enu.config e.kind).enable = true → (s.enu.config e.kind).route ≠ .trigger →
      let enters := fun q : List Notice => s.note e = { s with enu := { s.enu with notices := q } }
      (∀ before x after, s.enu.notices = before ++ x :: after → x.event.kind = e.kind → x.event.subject = e.subject →
        (∀ y ∈ before ++ after, ¬ (y.event.kind = e.kind ∧ y.event.subject = e.subject)) →
        enters (before ++ ⟨e, min (x.count + 1) 65535, s.clk.count⟩ :: after)) ∧
      ((∀ y ∈ s.enu.notices, ¬ (y.event.kind = e.kind ∧ y.event.subject = e.subject)) →
        (ordinaryCount s.enu.notices < 63 → enters (s.enu.notices ++ [⟨e, 1, s.clk.count⟩])) ∧
        (63 ≤ ordinaryCount s.enu.notices →
          ((∀ y ∈ s.enu.notices, y.event.kind ≠ .noticeOverflow) →
            enters (s.enu.notices ++ [⟨.noticeOverflow e.kind, 1, s.clk.count⟩])) ∧
          (∀ before x after, s.enu.notices = before ++ x :: after → x.event.kind = .noticeOverflow →
            (∀ y ∈ before ++ after, y.event.kind ≠ .noticeOverflow) →
            enters (before ++ ⟨.noticeOverflow e.kind, min (x.count + 1) 65535, s.clk.count⟩ :: after)))))) ∧
  (∀ (s : State) (e : Event), s.enu.triggers? e.kind = false → s.raise e = s.note e) ∧
  ∀ (s : State) (e : Event), s.enu.triggers? e.kind = true →
    OnlyEvents s (s.raise e) ∧
    (∀ i : Fin 16, (s.raise e).rse.slots[i].state =
      (match s.rse.slots[i].trigger.holds? e with
      | some true => if s.rse.slots[i].state = .armed then .active else s.rse.slots[i].state
      | some false =>
        if s.rse.slots[i].state = .active ∧ s.rse.slots[i].revert = .auto then .armed else s.rse.slots[i].state
      | none => s.rse.slots[i].state)) ∧
    (s.raise e).enu =
      (((List.finRange 16).filter fun i => (s.raise e).rse.slots[i].state != s.rse.slots[i].state).foldl
        (fun u i => u.note (.overlay i.val (s.raise e).rse.slots[i].state .trigger)) (s.note e)).enu

/-! ### Tariffs and calendar -/

/-- TARIFF_SET of an unlocked account replaces its entry with the clamped values and advances its generation, and is refused with
TARIFF_LOCKED when the account is locked (R117, R118).
When a request is taken: log 1, the model's choice. -/
def Obligations.TariffSetReplacesTheEntry : Prop :=
  ∀ (s : State) (h : Handed) (f : TariffFields) (i : Fin 63) (d : LegDir),
    Taken s (.tariffSet f) h → f.carrier = i.val + 1 → decodeLegDir f.direction = some d → f.increment ∈ [1, 6, 10, 30, 60] →
    ((s.sac.carriers[i].account d).locked = false →
      ∃ t x, exec (.tariffSet f) s = .next t ∧
        x = Tariff.mk f.rates f.fee (min f.minimum 600) f.increment (f.factors.map fun m => max 50 (min m 400)) f.cap
          (((s.rte.tariff d i).generation + 1) % 65536) ∧
        t.lnk = s.lnk.answered 0x28 h.tag (.accepted (.tariff x.generation x.minimum x.factors)) ∧ t.rte.tariff d i = x ∧
        (∀ e (j : Fin 63), ¬ (e = d ∧ j = i) → t.rte.tariff e j = s.rte.tariff e j) ∧ t.ctb = s.ctb ∧ t.rse = s.rse ∧
        t.clk = s.clk ∧ t.sac = s.sac ∧ t.enu = s.enu ∧ t.pending = s.pending) ∧
    ((s.sac.carriers[i].account d).locked = true →
      exec (.tariffSet f) s = .next { s with lnk := s.lnk.answered 0x28 h.tag (.denied .tariffLocked) })

/-- CALENDAR_SET replaces one day type's schedule (R110), WEEK_SET the week table (R111), and TIME_SET the calendar, yesterday's override
kept only on the same weekday (R107); a midnight still due is dropped by TIME_SET (log 7: the model's choice).
When a request is taken: log 1, the model's choice. -/
def Obligations.CalendarRequestsReplaceTheirParts : Prop :=
  (∀ (s : State) (h : Handed) (day start : Nat) (bs : List (Nat × Nat)) (t : DayType),
    Taken s (.calendarSet day start bs) h → decodeDayType day = some t → start ≤ 3 → bs.length ≤ 7 →
    (bs.map Prod.fst).Pairwise (· < ·) → (∀ b ∈ bs, 1 ≤ b.1 ∧ b.1 ≤ 1439 ∧ b.2 ≤ 3) →
    exec (.calendarSet day start bs) s = .next { s with
      lnk := s.lnk.answered 0x29 h.tag (.accepted .plain)
      clk := match t with
        | .work => { s.clk with work := ⟨start, bs⟩ }
        | .rest => { s.clk with rest := ⟨start, bs⟩ } }) ∧
  (∀ (s : State) (h : Handed) (days : Vector Nat 7), Taken s (.weekSet days) h → (∀ d : Fin 7, days[d] ≤ 1) →
    exec (.weekSet days) s = .next { s with
      lnk := s.lnk.answered 0x2A h.tag (.accepted .plain)
      clk := { s.clk with week := days.map fun d => if d = 0 then .work else .rest } }) ∧
  (∀ (s : State) (h : Handed) (weekday ds flag : Nat), Taken s (.timeSet weekday ds flag) h → weekday ≤ 6 → ds ≤ 863999 →
    flag ≤ 1 →
    exec (.timeSet weekday ds flag) s = .next { s with
      lnk := s.lnk.answered 0x2B h.tag (.accepted (.time s.clk.clock s.clk.weekday s.clk.ds))
      clk := { s.clk with
        weekday, ds, clock := .set, today := decide (flag = 1), midnightDue := false
        yesterday := if weekday = s.clk.weekday then s.clk.yesterday else false } })

/-! ### Accounts and records -/

/-- CARRIER_LIMITS and CARRIER_BAR replace their fields, and the carrier's standing becomes the one R145 gives, reported with the one
before; CARRIER_STANDING is raised with the new standing exactly when it differs, and nothing else is (R143 to R146).
When a request is taken: log 1, the model's choice. -/
def Obligations.LimitsAndBarSetTheStanding : Prop :=
  ∀ (s : State) (h : Handed) (i : Fin 63) (c : Instr) (code : Byte) (x : Carrier),
    Taken s c h →
    ((∃ w k, c = .carrierLimits (i.val + 1) w k ∧ code = 0x30 ∧ w ≤ 1099511627775 ∧ k ≤ 1099511627775 ∧
        ¬ (w ≠ 0 ∧ k ≠ 0 ∧ k < w) ∧ x = { s.sac.carriers[i] with watch := w, cap := k }) ∨
      ∃ f, c = .carrierBar (i.val + 1) f ∧ code = 0x31 ∧ f ≤ 1 ∧ x = { s.sac.carriers[i] with barred := decide (f = 1) }) →
    let after : Standing :=
      if x.barred = true ∨ (0 < x.cap ∧ x.cap ≤ x.outAccount.total) then .suspended
      else if 0 < x.watch ∧ x.watch ≤ x.outAccount.total then .watch else .normal
    ∃ t, exec c s = .next t ∧ OnlyEvents { s with
        lnk := s.lnk.answered code h.tag (.accepted (.standing s.sac.carriers[i].standing after))
        sac := { s.sac with carriers := s.sac.carriers.set i { x with standing := after } } } t ∧
      SameEvents (s.standingEvents i s.sac.carriers[i].standing after) t

/-- PERIOD_CLOSE for a carrier closes its two accounts into statements, unlocks them and re-evaluates its standing; for ALL it does so
for all 63 carriers at one settlement period number; the number advances once (R150 to R153). CARRIER_STANDING is raised for each
carrier whose standing changes, in ascending carrier order, and nothing else is (R146, R152).
When a request is taken: log 1, the model's choice. -/
def Obligations.PeriodCloseClosesTheAccounts : Prop :=
  ∀ (s : State) (h : Handed),
    (∀ i : Fin 63, Taken s (.periodClose (i.val + 1)) h →
      ∃ t, exec (.periodClose (i.val + 1)) s = .next t ∧ OnlyEvents { s with
        lnk := s.lnk.answered 0x40 h.tag (.accepted (.closed
          (closedAt s.sac.period s.sac.carriers[i].outAccount).statement
          (closedAt s.sac.period s.sac.carriers[i].inAccount).statement ((s.sac.period + 1) % 65536)))
        sac := { s.sac with
          carriers := s.sac.carriers.set i (carrierClosedAt s.sac.period s.sac.carriers[i])
          period := (s.sac.period + 1) % 65536 } } t ∧
        SameEvents (s.standingEvents i s.sac.carriers[i].standing
          (if s.sac.carriers[i].barred = true then .suspended else .normal)) t) ∧
    (Taken s (.periodClose 255) h →
      ∃ t, exec (.periodClose 255) s = .next t ∧ OnlyEvents { s with
        lnk := s.lnk.answered 0x40 h.tag (.accepted (.closedAll 126
          (s.sac.carriers.toList.map fun c =>
            (if c.outAccount.locked = true then 1 else 0) + (if c.inAccount.locked = true then 1 else 0)).sum
          ((s.sac.period + 1) % 65536)))
        sac := { s.sac with
          carriers := s.sac.carriers.map (carrierClosedAt s.sac.period), period := (s.sac.period + 1) % 65536 } } t ∧
        SameEvents ((List.finRange 63).foldl (fun u i => u.standingEvents i s.sac.carriers[i].standing
          (if s.sac.carriers[i].barred = true then .suspended else .normal)) s) t)

/-- GUARD_MODE replaces mode and threshold, RECORDS_FETCH removes and returns the oldest 1 to 8 records; each tests the latch once,
raises RECORD_HIGH with the latch's new value exactly when it moves, and raises nothing else; guarded legs, accounts and the sequence
counter stay (R164 to R166).
When a request is taken: log 1, the model's choice. -/
def Obligations.GuardModeAndFetchTestTheLatch : Prop :=
  (∀ (s : State) (h : Handed) (mode threshold : Nat) (m : GuardMode), Taken s (.guardMode mode threshold) h →
    decodeGuardMode mode = some m → 65 ≤ threshold → threshold ≤ 1024 →
    let latch := latchAfter s.sac.latch s.sac.records.length threshold
    ∃ t, exec (.guardMode mode threshold) s = .next t ∧ OnlyEvents { s with
      lnk := s.lnk.answered 0x32 h.tag (.accepted (.guardMode s.sac.mode s.sac.threshold latch))
      sac := { s.sac with mode := m, threshold, latch } } t ∧
      SameEvents (s.latchEvents s.sac.latch latch) t) ∧
  (∀ (s : State) (h : Handed) (count : Nat), s.takes? (.recordsFetch count) = some h →
    let n := max 1 (min count 8)
    let latch := latchAfter s.sac.latch (s.sac.records.drop n).length s.sac.threshold
    ∃ t, exec (.recordsFetch count) s = .next t ∧ OnlyEvents { s with
      lnk := s.lnk.answered 0x41 h.tag (.accepted (.records (s.sac.records.take n) (s.sac.records.drop n).length))
      sac := { s.sac with records := s.sac.records.drop n, latch } } t ∧
      SameEvents (s.latchEvents s.sac.latch latch) t)

/-! ### Events and queries -/

/-- EVENT_CONFIG applies the mask to every kind but STARTUP and NOTICE_OVERFLOW, then the entries' priorities and routes to the kinds
they name, and sets the elevated kind; notices already in the queue stay (R170 to R172).
When a request is taken: log 1, the model's choice. -/
def Obligations.EventConfigSetsTheKinds : Prop :=
  ∀ (s : State) (h : Handed) (mode elevated : Nat) (mask : BitVec 16) (entries : List (Nat × Nat × Nat)) (m : MaskMode)
    (el : Option Kind),
    Taken s (.eventConfig mode mask elevated entries) h → decodeMaskMode mode = some m → entries.length ≤ 14 →
    (entries.map Prod.fst).Nodup →
    (∀ e ∈ entries, ∃ k r, decodeKind e.1 = some k ∧ e.2.1 ≤ 7 ∧ decodeRoute e.2.2 = some r ∧
      (r = .notice ∨ k.triggerCapable = true)) →
    (elevated = 255 ∧ el = none ∨ ∃ k, decodeKind elevated = some k ∧ el = some k) →
    ∃ t, exec (.eventConfig mode mask elevated entries) s = .next t ∧
      t.lnk = s.lnk.answered 0x38 h.tag (.accepted (.events t.enu.enabledMask el)) ∧ t.enu.elevated = el ∧
      t.enu.notices = s.enu.notices ∧
      (∀ k, (t.enu.config k).enable =
        if k = .startup ∨ k = .noticeOverflow then (s.enu.config k).enable
        else (decide (m = .merge) && (s.enu.config k).enable) || mask.getLsbD (kindCode k).val) ∧
      (∀ k, (∀ e ∈ entries, decodeKind e.1 ≠ some k) →
        (t.enu.config k).priority = (s.enu.config k).priority ∧ (t.enu.config k).route = (s.enu.config k).route) ∧
      (∀ e ∈ entries, ∀ k, decodeKind e.1 = some k →
        (t.enu.config k).priority = e.2.1 ∧ some (t.enu.config k).route = decodeRoute e.2.2) ∧
      t.ctb = s.ctb ∧ t.rse = s.rse ∧ t.clk = s.clk ∧ t.rte = s.rte ∧ t.sac = s.sac ∧ t.pending = s.pending

/-- QUERY answers with its object's contents, during a sweep too, and changes nothing but the tallies that its clear flag names: the
link's for PART, the group's for GROUP (R46, R185, R200).
When a request is taken: log 1, the model's choice. The layout of the part's per-kind fields, of busy and idle, of absent fields and of
absent legs, and the order of the part's overrides and of its link tallies, are the model's (log 11, log 12, log 13, log 21,
log 22). -/
def Obligations.QueryChangesOnlyTallies : Prop :=
  ∀ (s : State) (h : Handed) (target number member clear : Nat),
    s.takes? (.query target number member clear) = some h →
    let reply := fun b : List Byte => s.lnk.answered 0x48 h.tag (.accepted (.contents b))
    (target = 0 → clear ≤ 1 → exec (.query target number member clear) s = .next { s with
      lnk := if clear = 1 then { reply (partContents (s.withHanded h)) with badCheck := 0, malformed := 0, overruns := 0 }
        else reply (partContents (s.withHanded h)) }) ∧
    (target = 1 → number ≤ 255 → clear ≤ 1 → ∃ t, exec (.query target number member clear) s = .next t ∧
      t.lnk = reply (groupContents (s.group? number)) ∧
      t.group? number = (s.group? number).map (fun r =>
        if clear = 1 then { r with tallies := ⟨0, 0, 0, 0, 0, 0⟩ } else r) ∧
      OtherGroups number s t ∧ SameOutsideCtb s t) ∧
    (∀ c, target = 2 → s.circuit? number member = some c → exec (.query target number member clear) s = .next { s with
      lnk := reply (be 1 (circuitStateCode c.state) ++ flag c.blockPending ++ flag c.faultMark ++ beOr 2 c.context ++
        beOr 2 (if c.state = .guard then c.guardTimer else c.seizeTimer)) }) ∧
    (target = 3 → number ≤ 4095 → exec (.query target number member clear) s = .next { s with
      lnk := reply (contextContents (s.context? number)) }) ∧
    (∀ i : Fin 63, target = 4 → number = i.val + 1 → exec (.query target number member clear) s = .next { s with
      lnk := reply (carrierContents (s.withHanded h) i) }) ∧
    (target = 5 → number ≤ 4095 → exec (.query target number member clear) s = .next { s with
      lnk := reply (destContents (s.dest? number)) }) ∧
    (∀ i : Fin 16, target = 6 → number = i.val → exec (.query target number member clear) s = .next { s with
      lnk := reply (slotContents s.rse.slots[i]) })

/-! ### Traffic restart -/

/-- TRAFFIC_RESTART begins a sweep at its arrival count and stops every seize timer, its reply still to come (R46, R47); the
completion, once every context is visited and every request taken is answered (R188), sets the restart values, leaves RESTART_DONE
alone in the notice queue when its kind is enabled and routed NOTICE, and places the reply (R27, R48, R89, R103, R180).
When a request is taken: log 1, the model's choice. That every other circuit goes to IDLE at the completion is the model's reading
(log 19). -/
def Obligations.TrafficRestartBeginsAndEnds : Prop :=
  (∀ (s : State) (h : Handed), Taken s .trafficRestart h →
    ∃ t, exec .trafficRestart s = .next t ∧ t.lnk = { s.lnk with handed := none } ∧
      t.rse = { s.rse with sweep := some ⟨h.tag, h.arrival, 0, 0, 0⟩ } ∧
      (∀ g, t.group? g = (s.group? g).map fun r =>
        { r with members := r.members.map fun c => { c with seizeTimer := none } }) ∧
      t.clk = s.clk ∧ t.rte = s.rte ∧ t.sac = s.sac ∧ t.enu = s.enu ∧ t.pending = s.pending) ∧
  (∀ (s : State) (w : Sweep), s.rse.sweep = some w → 4096 ≤ w.next → s.lnk.handed = none → s.lnk.phase = .running →
    ∃ t, exec .sweepCompletion s = .next t ∧
      t.lnk = { s.lnk with replies := s.lnk.replies ++ [⟨0xC9, w.tag, .accepted (.restarted w.rated w.freed)⟩] } ∧
      t.rse.sweep = none ∧ t.rse.contexts = s.rse.contexts ∧ t.rse.lists = s.rse.lists ∧
      (∀ g, t.group? g = (s.group? g).map fun r => { r with
        members := r.members.map (fun c => if c.state = .blocked then c else ⟨.idle, false, false, none, none, none⟩)
        state := if r.state = .inService then .inService else .blocked
        score := 0
        sampleTimer := if r.state = .inService then some r.sampleInterval else none }) ∧
      (∀ i, t.dest? i = (s.dest? i).map fun d => { d with mark := 0, markTimer := none, gap := 0 }) ∧
      (∀ i : Fin 16, t.rse.slots[i] = if s.rse.slots[i].state = .active ∧ s.rse.slots[i].trigger ≠ .manual
        then { s.rse.slots[i] with state := .armed } else s.rse.slots[i]) ∧
      t.enu = { s.enu with notices :=
        if (s.enu.config .restartDone).enable = true ∧ (s.enu.config .restartDone).route = .notice
        then [⟨.restartDone w.rated w.freed, 1, s.clk.count⟩]
        else if (s.enu.config .restartDone).enable = true ∧ (s.enu.config .restartDone).route = .both
        then [⟨.restartDone w.rated w.freed, 1, s.clk.count⟩] else [] } ∧
      t.clk = s.clk ∧ t.rte = s.rte ∧ t.sac = s.sac ∧ t.pending = s.pending)

/-- The sweep's visit of a context that holds a call ends its legs in SAC, rated by R44 with the sweep instant as release stamp and the
cut flag set where it was ANSWERED, counted unanswered otherwise; frees the context; then brings the busy circuits of its legs to IDLE
and no other circuit, so that a DRAINING group whose last busy circuit this was enters BLOCKED with its tallies kept, with GROUP_LEVEL
at a change of level and GROUP_DRAINED (R20, R21, R27, R47). Its events are those of the ratings and then of the drains, and no others.
The context is counted rated or freed (R48); a FREE context is passed over.
One context per command is the model's reading (log 19); that the in-leg's circuit goes to IDLE before the out-leg's is the model's
choice (log 20). -/
def Obligations.SweepVisitFreesTheContext : Prop :=
  ∀ (s : State) (w : Sweep), s.rse.sweep = some w → w.next < 4096 →
    (s.context? w.next = none →
      exec .sweepContextVisit s = .next { s with rse := { s.rse with sweep := some { w with next := w.next + 1 } } }) ∧
    (∀ x, s.context? w.next = some x →
      let legOf := fun g m => (x.inLeg.group = g ∧ x.inLeg.member = m) ∨ ∃ o, x.outLeg = some o ∧ o.group = g ∧ o.member = m
      let idled : Circuit := ⟨.idle, false, false, none, none, none⟩
      ∃ t, exec .sweepContextVisit s = .next t ∧ t.context? w.next = none ∧ OtherContexts w.next s t ∧
        t.rse.sweep = some (if x.state = .answered then { w with next := w.next + 1, rated := w.rated + 1 }
          else { w with next := w.next + 1, freed := w.freed + 1 }) ∧
        (∀ g m c, s.circuit? g m = some c → legOf g m → c.state.isBusy = true → t.circuit? g m = some idled) ∧
        (∀ g m, ¬ legOf g m → t.circuit? g m = s.circuit? g m) ∧ GroupsBeside x s t ∧
        (x.state ≠ .answered → EndedUnanswered x s t ∧ LegsEnded (fun _ _ => idled) x s id s t) ∧
        (∀ stamp, x.state = .answered → x.answerStamp = some stamp →
          x.RatedInto stamp w.instant true s fun _ sac events =>
            t.sac = sac ∧ LegsEnded (fun _ _ => idled) x (events s) id s t) ∧
        (x.carrierOn .inLeg = none → x.carrierOn .outLeg = none → t.sac = s.sac) ∧
        t.rse.dests = s.rse.dests ∧ t.rse.lists = s.rse.lists ∧ t.enu.kinds = s.enu.kinds ∧ t.enu.elevated = s.enu.elevated ∧
        t.lnk = s.lnk ∧ t.clk = s.clk ∧ t.rte = s.rte ∧ t.pending = s.pending)

/-! ### Timers and clock -/

/-- The four expiries (R14, R16, R40, R74, R84): a guard timer's brings its circuit to IDLE; a seize timer's releases its circuit,
with the drain of a DRAINING group (R20, R21), halts the context with TIMEOUT at the next entry and raises CIRCUIT_TROUBLE; a
sample timer's moves the score by the load and reloads, with GROUP_LEVEL at a change of level (R76); a mark timer's clears the
mark and raises FAR_MARK_EXPIRED.
That a timer stands at 0 until its expiry is taken is the model's choice (log 6). -/
def Obligations.TimersExpire : Prop :=
  (∀ (s : State) (g m : Nat) (r : Group) (c : Circuit), s.group? g = some r → r.members[m]? = some c → c.state = .guard →
    c.guardTimer = some 0 →
    ∃ t, exec (.guardTimerExpiry g m) s = .next t ∧ t.lnk = s.lnk ∧
      t.group? g = some { r with members := r.members.set m ⟨.idle, false, false, none, none, none⟩ } ∧ OtherGroups g s t ∧
      SameOutsideCtb s t) ∧
  (∀ (s : State) (g m n : Nat) (r : Group) (c : Circuit) (x : Context) (o : OutLeg) (y : Progress),
    s.group? g = some r → r.members[m]? = some c → c.state = .outPending → c.seizeTimer = some 0 →
    c.context = some n → s.context? n = some x → x.outLeg = some o → x.progress = some y →
    let after : Group := { r with members := r.members.set m (releasedAs r c) }
    ∃ t, exec (.seizeTimerExpiry g m) s = .next t ∧ t.lnk = s.lnk ∧
      t.context? n = some { x with
        state := .halted, outLeg := none, haltCause := some .timeout, progress := some { y with resume := o.entry + 1 } } ∧
      OtherContexts n s t ∧
      t.group? g = some { drainedAs after with
        tallies := { r.tallies with timeouts := min (r.tallies.timeouts + 1) 4294967295 } } ∧
      SameEvents ((s.drainEvents g after).raise (.circuitTrouble g m .timeout)) t ∧ OtherGroups g s t ∧ t.sac = s.sac.settled o.guarded ∧ t.rse.dests = s.rse.dests ∧ t.rse.lists = s.rse.lists ∧
      t.rse.sweep = s.rse.sweep ∧ t.clk = s.clk ∧ t.rte = s.rte ∧ t.pending = s.pending) ∧
  (∀ (s : State) (g : Nat) (r : Group), s.group? g = some r → r.sampleTimer = some 0 →
    let score := if r.loadThreshold ≤ r.busy then min (r.score + 1) 15 else r.score - 1
    ∃ t, exec (.sampleTimerExpiry g) s = .next t ∧ t.lnk = s.lnk ∧
      t.group? g = some { r with score, sampleTimer := some r.sampleInterval } ∧
      SameEvents (if levelOf score = r.level then s else s.raise (.groupLevel g (levelOf score))) t ∧ OtherGroups g s t ∧ t.rse.contexts = s.rse.contexts ∧ t.rse.dests = s.rse.dests ∧ t.rse.lists = s.rse.lists ∧
      t.rse.sweep = s.rse.sweep ∧ t.clk = s.clk ∧ t.rte = s.rte ∧ t.sac = s.sac ∧ t.pending = s.pending) ∧
  (∀ (s : State) (i : Nat) (d : Dest), s.dest? i = some d → d.markTimer = some 0 →
    ∃ t, exec (.markExpiry i) s = .next t ∧ t.lnk = s.lnk ∧ t.dest? i = some { d with mark := 0, markTimer := none } ∧
      OtherDests i s t ∧ t.ctb = s.ctb ∧ t.rse.contexts = s.rse.contexts ∧ SameRoutes s t ∧
      SameEvents (s.raise (.farMarkExpired i d.mark)) t ∧
      t.clk = s.clk ∧ t.rte = s.rte ∧ t.sac = s.sac ∧ t.pending = s.pending)

/-- The end of a decisecond advances the count, the ds of day and every running timer; the midnight rollover gives the next weekday at ds
0 and moves today's override to yesterday's (R104 to R106). That the ds of day waits at 863,999 for the rollover, and a run-out
timer at 0, are the model's choices (log 6, log 7). -/
def Obligations.ClockStepsAdvance : Prop :=
  (∀ s : State, s.clk.midnightDue = true →
    exec .midnightRollover s = .next { s with clk := { s.clk with
      ds := 0, weekday := (s.clk.weekday + 1) % 7, yesterday := s.clk.today, today := false, midnightDue := false } }) ∧
  (∀ s : State, s.lnk.phase ≠ .inReset → s.clk.midnightDue = false →
    ∃ t, exec .endOfDecisecond s = .next t ∧
      t.clk = (if s.clk.ds < 863999 then { s.clk with count := s.clk.count + 1, ds := s.clk.ds + 1 }
        else { s.clk with count := s.clk.count + 1, midnightDue := true }) ∧
      (∀ g, t.group? g = (s.group? g).map fun r => { r with
        sampleTimer := r.sampleTimer.map (· - 1)
        members := r.members.map fun c =>
          { c with guardTimer := c.guardTimer.map (· - 1), seizeTimer := c.seizeTimer.map (· - 1) } }) ∧
      (∀ i, t.dest? i = (s.dest? i).map fun d => { d with markTimer := d.markTimer.map (· - 1) }) ∧
      t.rse.contexts = s.rse.contexts ∧ SameRoutes s t ∧ t.lnk = s.lnk ∧ t.rte = s.rte ∧ t.sac = s.sac ∧ t.enu = s.enu ∧
      t.pending = s.pending)
end

