-- ==== Sys2Proof/Laws/Bytes.lean ====
section
/-! SUPPORT. The laws of fields: the length of a field, and that reading a field gives the number written (R194). -/

namespace Sys2Proof.Machine

/-- A field has its width. -/
@[simp] theorem be_length (n v : Nat) : (be n v).length = n := by
  induction n with
  | zero => rfl
  | succ n ih => simp [be, ih]

/-- Reading more bytes after some. -/
theorem ofBe_append (a b : List Byte) : ofBe (a ++ b) = ofBe a * 256 ^ b.length + ofBe b := by
  unfold ofBe
  rw [List.foldl_append]
  generalize List.foldl (fun a b => a * 256 + b.toNat) 0 a = x
  suffices h : ∀ x y, List.foldl (fun (a : Nat) (b : Byte) => a * 256 + b.toNat) (x + y) b =
      x * 256 ^ b.length + List.foldl (fun (a : Nat) (b : Byte) => a * 256 + b.toNat) y b by simpa using h x 0
  induction b with
  | nil => intro x y; simp
  | cons c t ih =>
    intro x y
    simp only [List.foldl_cons, List.length_cons]
    rw [show (x + y) * 256 + c.toNat = x * 256 + (y * 256 + c.toNat) by ring, ih]
    ring

/-- Reading a field gives the number written, as far as its width goes. -/
theorem ofBe_be (n v : Nat) : ofBe (be n v) = v % 256 ^ n := by
  induction n with
  | zero => simp [be, ofBe, Nat.mod_one]
  | succ n ih =>
    rw [show be (n + 1) v = [BitVec.ofNat 8 (v / 256 ^ n)] ++ be n v from rfl, ofBe_append, ih, be_length]
    simp only [ofBe, List.foldl_cons, List.foldl_nil, BitVec.toNat_ofNat, Nat.zero_mul, Nat.zero_add]
    have h := Nat.mod_mul_right_mod (v / 256 ^ n) (2 ^ 8) 1
    rw [show (2 : Nat) ^ 8 = 256 by norm_num, pow_succ, Nat.mod_mul (a := 256 ^ n) (b := 256)]
    ring

/-- The number of bytes of repeated fields of one width. -/
theorem flatMap_length {α : Type} (f : α → List Byte) (n : Nat) (h : ∀ a, (f a).length = n) (l : List α) :
    (l.flatMap f).length = n * l.length := by
  induction l with
  | nil => simp
  | cons a t ih => simp [h, ih, Nat.mul_succ, Nat.add_comm]

end Sys2Proof.Machine
end

