-- ==== Sys2Proof/Laws/State.lean ====
section
/-! SUPPORT. One lemma per field per update of State: what an update leaves alone, and what it writes. All true by `rfl`, or by a
split where an update looks for its entry first. -/

namespace Sys2Proof.Machine

variable (s : State)

/-! ### setGroup -/

@[simp] theorem State.setGroup_lnk (g : Nat) (r : Group) : (s.setGroup g r).lnk = s.lnk := rfl
@[simp] theorem State.setGroup_rse (g : Nat) (r : Group) : (s.setGroup g r).rse = s.rse := rfl
@[simp] theorem State.setGroup_clk (g : Nat) (r : Group) : (s.setGroup g r).clk = s.clk := rfl
@[simp] theorem State.setGroup_rte (g : Nat) (r : Group) : (s.setGroup g r).rte = s.rte := rfl
@[simp] theorem State.setGroup_sac (g : Nat) (r : Group) : (s.setGroup g r).sac = s.sac := rfl
@[simp] theorem State.setGroup_enu (g : Nat) (r : Group) : (s.setGroup g r).enu = s.enu := rfl
@[simp] theorem State.setGroup_pending (g : Nat) (r : Group) : (s.setGroup g r).pending = s.pending := rfl

/-! ### deleteGroup -/

@[simp] theorem State.deleteGroup_lnk (g : Nat) : (s.deleteGroup g).lnk = s.lnk := rfl
@[simp] theorem State.deleteGroup_rse (g : Nat) : (s.deleteGroup g).rse = s.rse := rfl
@[simp] theorem State.deleteGroup_clk (g : Nat) : (s.deleteGroup g).clk = s.clk := rfl
@[simp] theorem State.deleteGroup_rte (g : Nat) : (s.deleteGroup g).rte = s.rte := rfl
@[simp] theorem State.deleteGroup_sac (g : Nat) : (s.deleteGroup g).sac = s.sac := rfl
@[simp] theorem State.deleteGroup_enu (g : Nat) : (s.deleteGroup g).enu = s.enu := rfl
@[simp] theorem State.deleteGroup_pending (g : Nat) : (s.deleteGroup g).pending = s.pending := rfl

/-! ### mapGroups -/

@[simp] theorem State.mapGroups_lnk (f : Group → Group) : (s.mapGroups f).lnk = s.lnk := rfl
@[simp] theorem State.mapGroups_rse (f : Group → Group) : (s.mapGroups f).rse = s.rse := rfl
@[simp] theorem State.mapGroups_clk (f : Group → Group) : (s.mapGroups f).clk = s.clk := rfl
@[simp] theorem State.mapGroups_rte (f : Group → Group) : (s.mapGroups f).rte = s.rte := rfl
@[simp] theorem State.mapGroups_sac (f : Group → Group) : (s.mapGroups f).sac = s.sac := rfl
@[simp] theorem State.mapGroups_enu (f : Group → Group) : (s.mapGroups f).enu = s.enu := rfl
@[simp] theorem State.mapGroups_pending (f : Group → Group) : (s.mapGroups f).pending = s.pending := rfl

/-! ### setContext -/

@[simp] theorem State.setContext_lnk (n : Nat) (c : Context) : (s.setContext n c).lnk = s.lnk := rfl
@[simp] theorem State.setContext_ctb (n : Nat) (c : Context) : (s.setContext n c).ctb = s.ctb := rfl
@[simp] theorem State.setContext_clk (n : Nat) (c : Context) : (s.setContext n c).clk = s.clk := rfl
@[simp] theorem State.setContext_rte (n : Nat) (c : Context) : (s.setContext n c).rte = s.rte := rfl
@[simp] theorem State.setContext_sac (n : Nat) (c : Context) : (s.setContext n c).sac = s.sac := rfl
@[simp] theorem State.setContext_enu (n : Nat) (c : Context) : (s.setContext n c).enu = s.enu := rfl
@[simp] theorem State.setContext_pending (n : Nat) (c : Context) : (s.setContext n c).pending = s.pending := rfl
@[simp] theorem State.setContext_rse_dests (n : Nat) (c : Context) : (s.setContext n c).rse.dests = s.rse.dests := rfl
@[simp] theorem State.setContext_rse_lists (n : Nat) (c : Context) : (s.setContext n c).rse.lists = s.rse.lists := rfl
@[simp] theorem State.setContext_rse_slots (n : Nat) (c : Context) : (s.setContext n c).rse.slots = s.rse.slots := rfl
@[simp] theorem State.setContext_rse_sweep (n : Nat) (c : Context) : (s.setContext n c).rse.sweep = s.rse.sweep := rfl

/-! ### freeContext -/

@[simp] theorem State.freeContext_lnk (n : Nat) : (s.freeContext n).lnk = s.lnk := rfl
@[simp] theorem State.freeContext_ctb (n : Nat) : (s.freeContext n).ctb = s.ctb := rfl
@[simp] theorem State.freeContext_clk (n : Nat) : (s.freeContext n).clk = s.clk := rfl
@[simp] theorem State.freeContext_rte (n : Nat) : (s.freeContext n).rte = s.rte := rfl
@[simp] theorem State.freeContext_sac (n : Nat) : (s.freeContext n).sac = s.sac := rfl
@[simp] theorem State.freeContext_enu (n : Nat) : (s.freeContext n).enu = s.enu := rfl
@[simp] theorem State.freeContext_pending (n : Nat) : (s.freeContext n).pending = s.pending := rfl
@[simp] theorem State.freeContext_rse_dests (n : Nat) : (s.freeContext n).rse.dests = s.rse.dests := rfl
@[simp] theorem State.freeContext_rse_lists (n : Nat) : (s.freeContext n).rse.lists = s.rse.lists := rfl
@[simp] theorem State.freeContext_rse_slots (n : Nat) : (s.freeContext n).rse.slots = s.rse.slots := rfl
@[simp] theorem State.freeContext_rse_sweep (n : Nat) : (s.freeContext n).rse.sweep = s.rse.sweep := rfl

/-! ### setDest -/

@[simp] theorem State.setDest_lnk (i : Nat) (d : Dest) : (s.setDest i d).lnk = s.lnk := rfl
@[simp] theorem State.setDest_ctb (i : Nat) (d : Dest) : (s.setDest i d).ctb = s.ctb := rfl
@[simp] theorem State.setDest_clk (i : Nat) (d : Dest) : (s.setDest i d).clk = s.clk := rfl
@[simp] theorem State.setDest_rte (i : Nat) (d : Dest) : (s.setDest i d).rte = s.rte := rfl
@[simp] theorem State.setDest_sac (i : Nat) (d : Dest) : (s.setDest i d).sac = s.sac := rfl
@[simp] theorem State.setDest_enu (i : Nat) (d : Dest) : (s.setDest i d).enu = s.enu := rfl
@[simp] theorem State.setDest_pending (i : Nat) (d : Dest) : (s.setDest i d).pending = s.pending := rfl
@[simp] theorem State.setDest_rse_lists (i : Nat) (d : Dest) : (s.setDest i d).rse.lists = s.rse.lists := rfl
@[simp] theorem State.setDest_rse_slots (i : Nat) (d : Dest) : (s.setDest i d).rse.slots = s.rse.slots := rfl
@[simp] theorem State.setDest_rse_contexts (i : Nat) (d : Dest) : (s.setDest i d).rse.contexts = s.rse.contexts := rfl
@[simp] theorem State.setDest_rse_sweep (i : Nat) (d : Dest) : (s.setDest i d).rse.sweep = s.rse.sweep := rfl

/-! ### clearDest -/

@[simp] theorem State.clearDest_lnk (i : Nat) : (s.clearDest i).lnk = s.lnk := rfl
@[simp] theorem State.clearDest_ctb (i : Nat) : (s.clearDest i).ctb = s.ctb := rfl
@[simp] theorem State.clearDest_clk (i : Nat) : (s.clearDest i).clk = s.clk := rfl
@[simp] theorem State.clearDest_rte (i : Nat) : (s.clearDest i).rte = s.rte := rfl
@[simp] theorem State.clearDest_sac (i : Nat) : (s.clearDest i).sac = s.sac := rfl
@[simp] theorem State.clearDest_enu (i : Nat) : (s.clearDest i).enu = s.enu := rfl
@[simp] theorem State.clearDest_pending (i : Nat) : (s.clearDest i).pending = s.pending := rfl
@[simp] theorem State.clearDest_rse_lists (i : Nat) : (s.clearDest i).rse.lists = s.rse.lists := rfl
@[simp] theorem State.clearDest_rse_slots (i : Nat) : (s.clearDest i).rse.slots = s.rse.slots := rfl
@[simp] theorem State.clearDest_rse_contexts (i : Nat) : (s.clearDest i).rse.contexts = s.rse.contexts := rfl
@[simp] theorem State.clearDest_rse_sweep (i : Nat) : (s.clearDest i).rse.sweep = s.rse.sweep := rfl

/-! ### setSlot -/

@[simp] theorem State.setSlot_lnk (i : Fin 16) (x : Slot) : (s.setSlot i x).lnk = s.lnk := rfl
@[simp] theorem State.setSlot_ctb (i : Fin 16) (x : Slot) : (s.setSlot i x).ctb = s.ctb := rfl
@[simp] theorem State.setSlot_clk (i : Fin 16) (x : Slot) : (s.setSlot i x).clk = s.clk := rfl
@[simp] theorem State.setSlot_rte (i : Fin 16) (x : Slot) : (s.setSlot i x).rte = s.rte := rfl
@[simp] theorem State.setSlot_sac (i : Fin 16) (x : Slot) : (s.setSlot i x).sac = s.sac := rfl
@[simp] theorem State.setSlot_enu (i : Fin 16) (x : Slot) : (s.setSlot i x).enu = s.enu := rfl
@[simp] theorem State.setSlot_pending (i : Fin 16) (x : Slot) : (s.setSlot i x).pending = s.pending := rfl
@[simp] theorem State.setSlot_rse_dests (i : Fin 16) (x : Slot) : (s.setSlot i x).rse.dests = s.rse.dests := rfl
@[simp] theorem State.setSlot_rse_lists (i : Fin 16) (x : Slot) : (s.setSlot i x).rse.lists = s.rse.lists := rfl
@[simp] theorem State.setSlot_rse_contexts (i : Fin 16) (x : Slot) : (s.setSlot i x).rse.contexts = s.rse.contexts := rfl
@[simp] theorem State.setSlot_rse_sweep (i : Fin 16) (x : Slot) : (s.setSlot i x).rse.sweep = s.rse.sweep := rfl

/-! ### quietSlot -/

@[simp] theorem State.quietSlot_lnk (i : Fin 16) (x : SlotState) : (s.quietSlot i x).lnk = s.lnk := rfl
@[simp] theorem State.quietSlot_ctb (i : Fin 16) (x : SlotState) : (s.quietSlot i x).ctb = s.ctb := rfl
@[simp] theorem State.quietSlot_clk (i : Fin 16) (x : SlotState) : (s.quietSlot i x).clk = s.clk := rfl
@[simp] theorem State.quietSlot_rte (i : Fin 16) (x : SlotState) : (s.quietSlot i x).rte = s.rte := rfl
@[simp] theorem State.quietSlot_sac (i : Fin 16) (x : SlotState) : (s.quietSlot i x).sac = s.sac := rfl
@[simp] theorem State.quietSlot_enu (i : Fin 16) (x : SlotState) : (s.quietSlot i x).enu = s.enu := rfl
@[simp] theorem State.quietSlot_pending (i : Fin 16) (x : SlotState) : (s.quietSlot i x).pending = s.pending := rfl
@[simp] theorem State.quietSlot_rse_dests (i : Fin 16) (x : SlotState) : (s.quietSlot i x).rse.dests = s.rse.dests := rfl
@[simp] theorem State.quietSlot_rse_lists (i : Fin 16) (x : SlotState) : (s.quietSlot i x).rse.lists = s.rse.lists := rfl
@[simp] theorem State.quietSlot_rse_contexts (i : Fin 16) (x : SlotState) : (s.quietSlot i x).rse.contexts = s.rse.contexts := rfl
@[simp] theorem State.quietSlot_rse_sweep (i : Fin 16) (x : SlotState) : (s.quietSlot i x).rse.sweep = s.rse.sweep := rfl

/-! ### setSweep -/

@[simp] theorem State.setSweep_lnk (w : Option Sweep) : (s.setSweep w).lnk = s.lnk := rfl
@[simp] theorem State.setSweep_ctb (w : Option Sweep) : (s.setSweep w).ctb = s.ctb := rfl
@[simp] theorem State.setSweep_clk (w : Option Sweep) : (s.setSweep w).clk = s.clk := rfl
@[simp] theorem State.setSweep_rte (w : Option Sweep) : (s.setSweep w).rte = s.rte := rfl
@[simp] theorem State.setSweep_sac (w : Option Sweep) : (s.setSweep w).sac = s.sac := rfl
@[simp] theorem State.setSweep_enu (w : Option Sweep) : (s.setSweep w).enu = s.enu := rfl
@[simp] theorem State.setSweep_pending (w : Option Sweep) : (s.setSweep w).pending = s.pending := rfl
@[simp] theorem State.setSweep_rse_dests (w : Option Sweep) : (s.setSweep w).rse.dests = s.rse.dests := rfl
@[simp] theorem State.setSweep_rse_lists (w : Option Sweep) : (s.setSweep w).rse.lists = s.rse.lists := rfl
@[simp] theorem State.setSweep_rse_slots (w : Option Sweep) : (s.setSweep w).rse.slots = s.rse.slots := rfl
@[simp] theorem State.setSweep_rse_contexts (w : Option Sweep) : (s.setSweep w).rse.contexts = s.rse.contexts := rfl

/-! ### setCarrier -/

@[simp] theorem State.setCarrier_lnk (i : Fin 63) (c : Carrier) : (s.setCarrier i c).lnk = s.lnk := rfl
@[simp] theorem State.setCarrier_ctb (i : Fin 63) (c : Carrier) : (s.setCarrier i c).ctb = s.ctb := rfl
@[simp] theorem State.setCarrier_rse (i : Fin 63) (c : Carrier) : (s.setCarrier i c).rse = s.rse := rfl
@[simp] theorem State.setCarrier_clk (i : Fin 63) (c : Carrier) : (s.setCarrier i c).clk = s.clk := rfl
@[simp] theorem State.setCarrier_rte (i : Fin 63) (c : Carrier) : (s.setCarrier i c).rte = s.rte := rfl
@[simp] theorem State.setCarrier_enu (i : Fin 63) (c : Carrier) : (s.setCarrier i c).enu = s.enu := rfl
@[simp] theorem State.setCarrier_pending (i : Fin 63) (c : Carrier) : (s.setCarrier i c).pending = s.pending := rfl
@[simp] theorem State.setCarrier_sac_period (i : Fin 63) (c : Carrier) : (s.setCarrier i c).sac.period = s.sac.period := rfl
@[simp] theorem State.setCarrier_sac_records (i : Fin 63) (c : Carrier) : (s.setCarrier i c).sac.records = s.sac.records := rfl
@[simp] theorem State.setCarrier_sac_guarded (i : Fin 63) (c : Carrier) : (s.setCarrier i c).sac.guarded = s.sac.guarded := rfl
@[simp] theorem State.setCarrier_sac_mode (i : Fin 63) (c : Carrier) : (s.setCarrier i c).sac.mode = s.sac.mode := rfl
@[simp] theorem State.setCarrier_sac_threshold (i : Fin 63) (c : Carrier) : (s.setCarrier i c).sac.threshold = s.sac.threshold := rfl
@[simp] theorem State.setCarrier_sac_latch (i : Fin 63) (c : Carrier) : (s.setCarrier i c).sac.latch = s.sac.latch := rfl
@[simp] theorem State.setCarrier_sac_sequence (i : Fin 63) (c : Carrier) : (s.setCarrier i c).sac.sequence = s.sac.sequence := rfl

/-! ### changeCarrier -/

@[simp] theorem State.changeCarrier_lnk (i : Fin 63) (f : Carrier → Carrier) : (s.changeCarrier i f).lnk = s.lnk := rfl
@[simp] theorem State.changeCarrier_ctb (i : Fin 63) (f : Carrier → Carrier) : (s.changeCarrier i f).ctb = s.ctb := rfl
@[simp] theorem State.changeCarrier_rse (i : Fin 63) (f : Carrier → Carrier) : (s.changeCarrier i f).rse = s.rse := rfl
@[simp] theorem State.changeCarrier_clk (i : Fin 63) (f : Carrier → Carrier) : (s.changeCarrier i f).clk = s.clk := rfl
@[simp] theorem State.changeCarrier_rte (i : Fin 63) (f : Carrier → Carrier) : (s.changeCarrier i f).rte = s.rte := rfl
@[simp] theorem State.changeCarrier_enu (i : Fin 63) (f : Carrier → Carrier) : (s.changeCarrier i f).enu = s.enu := rfl
@[simp] theorem State.changeCarrier_pending (i : Fin 63) (f : Carrier → Carrier) : (s.changeCarrier i f).pending = s.pending := rfl
@[simp] theorem State.changeCarrier_sac_period (i : Fin 63) (f : Carrier → Carrier) : (s.changeCarrier i f).sac.period = s.sac.period := rfl
@[simp] theorem State.changeCarrier_sac_records (i : Fin 63) (f : Carrier → Carrier) : (s.changeCarrier i f).sac.records = s.sac.records := rfl
@[simp] theorem State.changeCarrier_sac_guarded (i : Fin 63) (f : Carrier → Carrier) : (s.changeCarrier i f).sac.guarded = s.sac.guarded := rfl
@[simp] theorem State.changeCarrier_sac_mode (i : Fin 63) (f : Carrier → Carrier) : (s.changeCarrier i f).sac.mode = s.sac.mode := rfl
@[simp] theorem State.changeCarrier_sac_threshold (i : Fin 63) (f : Carrier → Carrier) : (s.changeCarrier i f).sac.threshold = s.sac.threshold := rfl
@[simp] theorem State.changeCarrier_sac_latch (i : Fin 63) (f : Carrier → Carrier) : (s.changeCarrier i f).sac.latch = s.sac.latch := rfl
@[simp] theorem State.changeCarrier_sac_sequence (i : Fin 63) (f : Carrier → Carrier) : (s.changeCarrier i f).sac.sequence = s.sac.sequence := rfl

/-! ### changeAccount -/

@[simp] theorem State.changeAccount_lnk (i : Fin 63) (d : LegDir) (f : Account → Account) : (s.changeAccount i d f).lnk = s.lnk := rfl
@[simp] theorem State.changeAccount_ctb (i : Fin 63) (d : LegDir) (f : Account → Account) : (s.changeAccount i d f).ctb = s.ctb := rfl
@[simp] theorem State.changeAccount_rse (i : Fin 63) (d : LegDir) (f : Account → Account) : (s.changeAccount i d f).rse = s.rse := rfl
@[simp] theorem State.changeAccount_clk (i : Fin 63) (d : LegDir) (f : Account → Account) : (s.changeAccount i d f).clk = s.clk := rfl
@[simp] theorem State.changeAccount_rte (i : Fin 63) (d : LegDir) (f : Account → Account) : (s.changeAccount i d f).rte = s.rte := rfl
@[simp] theorem State.changeAccount_enu (i : Fin 63) (d : LegDir) (f : Account → Account) : (s.changeAccount i d f).enu = s.enu := rfl
@[simp] theorem State.changeAccount_pending (i : Fin 63) (d : LegDir) (f : Account → Account) : (s.changeAccount i d f).pending = s.pending := rfl
@[simp] theorem State.changeAccount_sac_period (i : Fin 63) (d : LegDir) (f : Account → Account) : (s.changeAccount i d f).sac.period = s.sac.period := rfl
@[simp] theorem State.changeAccount_sac_records (i : Fin 63) (d : LegDir) (f : Account → Account) : (s.changeAccount i d f).sac.records = s.sac.records := rfl
@[simp] theorem State.changeAccount_sac_guarded (i : Fin 63) (d : LegDir) (f : Account → Account) : (s.changeAccount i d f).sac.guarded = s.sac.guarded := rfl
@[simp] theorem State.changeAccount_sac_mode (i : Fin 63) (d : LegDir) (f : Account → Account) : (s.changeAccount i d f).sac.mode = s.sac.mode := rfl
@[simp] theorem State.changeAccount_sac_threshold (i : Fin 63) (d : LegDir) (f : Account → Account) : (s.changeAccount i d f).sac.threshold = s.sac.threshold := rfl
@[simp] theorem State.changeAccount_sac_latch (i : Fin 63) (d : LegDir) (f : Account → Account) : (s.changeAccount i d f).sac.latch = s.sac.latch := rfl
@[simp] theorem State.changeAccount_sac_sequence (i : Fin 63) (d : LegDir) (f : Account → Account) : (s.changeAccount i d f).sac.sequence = s.sac.sequence := rfl

/-! ### nextSequence -/

@[simp] theorem State.nextSequence_lnk  : (s.nextSequence).lnk = s.lnk := rfl
@[simp] theorem State.nextSequence_ctb  : (s.nextSequence).ctb = s.ctb := rfl
@[simp] theorem State.nextSequence_rse  : (s.nextSequence).rse = s.rse := rfl
@[simp] theorem State.nextSequence_clk  : (s.nextSequence).clk = s.clk := rfl
@[simp] theorem State.nextSequence_rte  : (s.nextSequence).rte = s.rte := rfl
@[simp] theorem State.nextSequence_enu  : (s.nextSequence).enu = s.enu := rfl
@[simp] theorem State.nextSequence_pending  : (s.nextSequence).pending = s.pending := rfl
@[simp] theorem State.nextSequence_sac_carriers  : (s.nextSequence).sac.carriers = s.sac.carriers := rfl
@[simp] theorem State.nextSequence_sac_period  : (s.nextSequence).sac.period = s.sac.period := rfl
@[simp] theorem State.nextSequence_sac_records  : (s.nextSequence).sac.records = s.sac.records := rfl
@[simp] theorem State.nextSequence_sac_guarded  : (s.nextSequence).sac.guarded = s.sac.guarded := rfl
@[simp] theorem State.nextSequence_sac_mode  : (s.nextSequence).sac.mode = s.sac.mode := rfl
@[simp] theorem State.nextSequence_sac_threshold  : (s.nextSequence).sac.threshold = s.sac.threshold := rfl
@[simp] theorem State.nextSequence_sac_latch  : (s.nextSequence).sac.latch = s.sac.latch := rfl

/-! ### nextPeriod -/

@[simp] theorem State.nextPeriod_lnk  : (s.nextPeriod).lnk = s.lnk := rfl
@[simp] theorem State.nextPeriod_ctb  : (s.nextPeriod).ctb = s.ctb := rfl
@[simp] theorem State.nextPeriod_rse  : (s.nextPeriod).rse = s.rse := rfl
@[simp] theorem State.nextPeriod_clk  : (s.nextPeriod).clk = s.clk := rfl
@[simp] theorem State.nextPeriod_rte  : (s.nextPeriod).rte = s.rte := rfl
@[simp] theorem State.nextPeriod_enu  : (s.nextPeriod).enu = s.enu := rfl
@[simp] theorem State.nextPeriod_pending  : (s.nextPeriod).pending = s.pending := rfl
@[simp] theorem State.nextPeriod_sac_carriers  : (s.nextPeriod).sac.carriers = s.sac.carriers := rfl
@[simp] theorem State.nextPeriod_sac_records  : (s.nextPeriod).sac.records = s.sac.records := rfl
@[simp] theorem State.nextPeriod_sac_guarded  : (s.nextPeriod).sac.guarded = s.sac.guarded := rfl
@[simp] theorem State.nextPeriod_sac_mode  : (s.nextPeriod).sac.mode = s.sac.mode := rfl
@[simp] theorem State.nextPeriod_sac_threshold  : (s.nextPeriod).sac.threshold = s.sac.threshold := rfl
@[simp] theorem State.nextPeriod_sac_latch  : (s.nextPeriod).sac.latch = s.sac.latch := rfl
@[simp] theorem State.nextPeriod_sac_sequence  : (s.nextPeriod).sac.sequence = s.sac.sequence := rfl

/-! ### setTariff -/

@[simp] theorem State.setTariff_lnk (d : LegDir) (i : Fin 63) (x : Tariff) : (s.setTariff d i x).lnk = s.lnk := by cases d <;> rfl
@[simp] theorem State.setTariff_ctb (d : LegDir) (i : Fin 63) (x : Tariff) : (s.setTariff d i x).ctb = s.ctb := by cases d <;> rfl
@[simp] theorem State.setTariff_rse (d : LegDir) (i : Fin 63) (x : Tariff) : (s.setTariff d i x).rse = s.rse := by cases d <;> rfl
@[simp] theorem State.setTariff_clk (d : LegDir) (i : Fin 63) (x : Tariff) : (s.setTariff d i x).clk = s.clk := by cases d <;> rfl
@[simp] theorem State.setTariff_sac (d : LegDir) (i : Fin 63) (x : Tariff) : (s.setTariff d i x).sac = s.sac := by cases d <;> rfl
@[simp] theorem State.setTariff_enu (d : LegDir) (i : Fin 63) (x : Tariff) : (s.setTariff d i x).enu = s.enu := by cases d <;> rfl
@[simp] theorem State.setTariff_pending (d : LegDir) (i : Fin 63) (x : Tariff) : (s.setTariff d i x).pending = s.pending := by cases d <;> rfl

/-! ### settleGuard -/

@[simp] theorem State.settleGuard_lnk (b : Bool) : (s.settleGuard b).lnk = s.lnk := by cases b <;> rfl
@[simp] theorem State.settleGuard_ctb (b : Bool) : (s.settleGuard b).ctb = s.ctb := by cases b <;> rfl
@[simp] theorem State.settleGuard_rse (b : Bool) : (s.settleGuard b).rse = s.rse := by cases b <;> rfl
@[simp] theorem State.settleGuard_clk (b : Bool) : (s.settleGuard b).clk = s.clk := by cases b <;> rfl
@[simp] theorem State.settleGuard_rte (b : Bool) : (s.settleGuard b).rte = s.rte := by cases b <;> rfl
@[simp] theorem State.settleGuard_enu (b : Bool) : (s.settleGuard b).enu = s.enu := by cases b <;> rfl
@[simp] theorem State.settleGuard_pending (b : Bool) : (s.settleGuard b).pending = s.pending := by cases b <;> rfl
@[simp] theorem State.settleGuard_sac_carriers (b : Bool) : (s.settleGuard b).sac.carriers = s.sac.carriers := by cases b <;> rfl
@[simp] theorem State.settleGuard_sac_period (b : Bool) : (s.settleGuard b).sac.period = s.sac.period := by cases b <;> rfl
@[simp] theorem State.settleGuard_sac_records (b : Bool) : (s.settleGuard b).sac.records = s.sac.records := by cases b <;> rfl
@[simp] theorem State.settleGuard_sac_mode (b : Bool) : (s.settleGuard b).sac.mode = s.sac.mode := by cases b <;> rfl
@[simp] theorem State.settleGuard_sac_threshold (b : Bool) : (s.settleGuard b).sac.threshold = s.sac.threshold := by cases b <;> rfl
@[simp] theorem State.settleGuard_sac_latch (b : Bool) : (s.settleGuard b).sac.latch = s.sac.latch := by cases b <;> rfl
@[simp] theorem State.settleGuard_sac_sequence (b : Bool) : (s.settleGuard b).sac.sequence = s.sac.sequence := by cases b <;> rfl

/-! ### admitLeg -/

@[simp] theorem State.admit_lnk (b : Bool) : (s.admitLeg b).lnk = s.lnk := by cases b <;> rfl
@[simp] theorem State.admit_ctb (b : Bool) : (s.admitLeg b).ctb = s.ctb := by cases b <;> rfl
@[simp] theorem State.admit_rse (b : Bool) : (s.admitLeg b).rse = s.rse := by cases b <;> rfl
@[simp] theorem State.admit_clk (b : Bool) : (s.admitLeg b).clk = s.clk := by cases b <;> rfl
@[simp] theorem State.admit_rte (b : Bool) : (s.admitLeg b).rte = s.rte := by cases b <;> rfl
@[simp] theorem State.admit_enu (b : Bool) : (s.admitLeg b).enu = s.enu := by cases b <;> rfl
@[simp] theorem State.admit_pending (b : Bool) : (s.admitLeg b).pending = s.pending := by cases b <;> rfl
@[simp] theorem State.admit_sac_carriers (b : Bool) : (s.admitLeg b).sac.carriers = s.sac.carriers := by cases b <;> rfl
@[simp] theorem State.admit_sac_period (b : Bool) : (s.admitLeg b).sac.period = s.sac.period := by cases b <;> rfl
@[simp] theorem State.admit_sac_records (b : Bool) : (s.admitLeg b).sac.records = s.sac.records := by cases b <;> rfl
@[simp] theorem State.admit_sac_mode (b : Bool) : (s.admitLeg b).sac.mode = s.sac.mode := by cases b <;> rfl
@[simp] theorem State.admit_sac_threshold (b : Bool) : (s.admitLeg b).sac.threshold = s.sac.threshold := by cases b <;> rfl
@[simp] theorem State.admit_sac_latch (b : Bool) : (s.admitLeg b).sac.latch = s.sac.latch := by cases b <;> rfl
@[simp] theorem State.admit_sac_sequence (b : Bool) : (s.admitLeg b).sac.sequence = s.sac.sequence := by cases b <;> rfl

/-! ### withHanded -/

@[simp] theorem State.withHanded_ctb (h : Handed) : (s.withHanded h).ctb = s.ctb := rfl
@[simp] theorem State.withHanded_rse (h : Handed) : (s.withHanded h).rse = s.rse := rfl
@[simp] theorem State.withHanded_clk (h : Handed) : (s.withHanded h).clk = s.clk := rfl
@[simp] theorem State.withHanded_rte (h : Handed) : (s.withHanded h).rte = s.rte := rfl
@[simp] theorem State.withHanded_sac (h : Handed) : (s.withHanded h).sac = s.sac := rfl
@[simp] theorem State.withHanded_enu (h : Handed) : (s.withHanded h).enu = s.enu := rfl
@[simp] theorem State.withHanded_pending (h : Handed) : (s.withHanded h).pending = s.pending := rfl
@[simp] theorem State.withHanded_lnk_phase (h : Handed) : (s.withHanded h).lnk.phase = s.lnk.phase := rfl
@[simp] theorem State.withHanded_lnk_rx (h : Handed) : (s.withHanded h).lnk.rx = s.lnk.rx := rfl
@[simp] theorem State.withHanded_lnk_inbound (h : Handed) : (s.withHanded h).lnk.inbound = s.lnk.inbound := rfl
@[simp] theorem State.withHanded_lnk_replies (h : Handed) : (s.withHanded h).lnk.replies = s.lnk.replies := rfl
@[simp] theorem State.withHanded_lnk_sending (h : Handed) : (s.withHanded h).lnk.sending = s.lnk.sending := rfl
@[simp] theorem State.withHanded_lnk_replyRun (h : Handed) : (s.withHanded h).lnk.replyRun = s.lnk.replyRun := rfl
@[simp] theorem State.withHanded_lnk_badCheck (h : Handed) : (s.withHanded h).lnk.badCheck = s.lnk.badCheck := rfl
@[simp] theorem State.withHanded_lnk_malformed (h : Handed) : (s.withHanded h).lnk.malformed = s.lnk.malformed := rfl
@[simp] theorem State.withHanded_lnk_overruns (h : Handed) : (s.withHanded h).lnk.overruns = s.lnk.overruns := rfl

/-! ### place -/

@[simp] theorem State.place_ctb (k : Byte) (tag : BitVec 16) (a : Answer) : (s.place k tag a).ctb = s.ctb := rfl
@[simp] theorem State.place_rse (k : Byte) (tag : BitVec 16) (a : Answer) : (s.place k tag a).rse = s.rse := rfl
@[simp] theorem State.place_clk (k : Byte) (tag : BitVec 16) (a : Answer) : (s.place k tag a).clk = s.clk := rfl
@[simp] theorem State.place_rte (k : Byte) (tag : BitVec 16) (a : Answer) : (s.place k tag a).rte = s.rte := rfl
@[simp] theorem State.place_sac (k : Byte) (tag : BitVec 16) (a : Answer) : (s.place k tag a).sac = s.sac := rfl
@[simp] theorem State.place_enu (k : Byte) (tag : BitVec 16) (a : Answer) : (s.place k tag a).enu = s.enu := rfl
@[simp] theorem State.place_pending (k : Byte) (tag : BitVec 16) (a : Answer) : (s.place k tag a).pending = s.pending := rfl
@[simp] theorem State.place_lnk_phase (k : Byte) (tag : BitVec 16) (a : Answer) : (s.place k tag a).lnk.phase = s.lnk.phase := rfl
@[simp] theorem State.place_lnk_rx (k : Byte) (tag : BitVec 16) (a : Answer) : (s.place k tag a).lnk.rx = s.lnk.rx := rfl
@[simp] theorem State.place_lnk_inbound (k : Byte) (tag : BitVec 16) (a : Answer) : (s.place k tag a).lnk.inbound = s.lnk.inbound := rfl
@[simp] theorem State.place_lnk_sending (k : Byte) (tag : BitVec 16) (a : Answer) : (s.place k tag a).lnk.sending = s.lnk.sending := rfl
@[simp] theorem State.place_lnk_replyRun (k : Byte) (tag : BitVec 16) (a : Answer) : (s.place k tag a).lnk.replyRun = s.lnk.replyRun := rfl
@[simp] theorem State.place_lnk_badCheck (k : Byte) (tag : BitVec 16) (a : Answer) : (s.place k tag a).lnk.badCheck = s.lnk.badCheck := rfl
@[simp] theorem State.place_lnk_malformed (k : Byte) (tag : BitVec 16) (a : Answer) : (s.place k tag a).lnk.malformed = s.lnk.malformed := rfl
@[simp] theorem State.place_lnk_overruns (k : Byte) (tag : BitVec 16) (a : Answer) : (s.place k tag a).lnk.overruns = s.lnk.overruns := rfl

/-! ### setRx -/

@[simp] theorem State.setRx_ctb (r : Receiver) : (s.setRx r).ctb = s.ctb := rfl
@[simp] theorem State.setRx_rse (r : Receiver) : (s.setRx r).rse = s.rse := rfl
@[simp] theorem State.setRx_clk (r : Receiver) : (s.setRx r).clk = s.clk := rfl
@[simp] theorem State.setRx_rte (r : Receiver) : (s.setRx r).rte = s.rte := rfl
@[simp] theorem State.setRx_sac (r : Receiver) : (s.setRx r).sac = s.sac := rfl
@[simp] theorem State.setRx_enu (r : Receiver) : (s.setRx r).enu = s.enu := rfl
@[simp] theorem State.setRx_pending (r : Receiver) : (s.setRx r).pending = s.pending := rfl
@[simp] theorem State.setRx_lnk_phase (r : Receiver) : (s.setRx r).lnk.phase = s.lnk.phase := rfl
@[simp] theorem State.setRx_lnk_inbound (r : Receiver) : (s.setRx r).lnk.inbound = s.lnk.inbound := rfl
@[simp] theorem State.setRx_lnk_handed (r : Receiver) : (s.setRx r).lnk.handed = s.lnk.handed := rfl
@[simp] theorem State.setRx_lnk_replies (r : Receiver) : (s.setRx r).lnk.replies = s.lnk.replies := rfl
@[simp] theorem State.setRx_lnk_sending (r : Receiver) : (s.setRx r).lnk.sending = s.lnk.sending := rfl
@[simp] theorem State.setRx_lnk_replyRun (r : Receiver) : (s.setRx r).lnk.replyRun = s.lnk.replyRun := rfl
@[simp] theorem State.setRx_lnk_badCheck (r : Receiver) : (s.setRx r).lnk.badCheck = s.lnk.badCheck := rfl
@[simp] theorem State.setRx_lnk_malformed (r : Receiver) : (s.setRx r).lnk.malformed = s.lnk.malformed := rfl
@[simp] theorem State.setRx_lnk_overruns (r : Receiver) : (s.setRx r).lnk.overruns = s.lnk.overruns := rfl

/-! ### answerFrame -/

@[simp] theorem State.answerFrame_ctb (f : InFrame) (a : Answer) : (s.answerFrame f a).ctb = s.ctb := rfl
@[simp] theorem State.answerFrame_rse (f : InFrame) (a : Answer) : (s.answerFrame f a).rse = s.rse := rfl
@[simp] theorem State.answerFrame_clk (f : InFrame) (a : Answer) : (s.answerFrame f a).clk = s.clk := rfl
@[simp] theorem State.answerFrame_rte (f : InFrame) (a : Answer) : (s.answerFrame f a).rte = s.rte := rfl
@[simp] theorem State.answerFrame_sac (f : InFrame) (a : Answer) : (s.answerFrame f a).sac = s.sac := rfl
@[simp] theorem State.answerFrame_enu (f : InFrame) (a : Answer) : (s.answerFrame f a).enu = s.enu := rfl
@[simp] theorem State.answerFrame_pending (f : InFrame) (a : Answer) : (s.answerFrame f a).pending = s.pending := rfl
@[simp] theorem State.answerFrame_lnk_phase (f : InFrame) (a : Answer) : (s.answerFrame f a).lnk.phase = s.lnk.phase := rfl
@[simp] theorem State.answerFrame_lnk_rx (f : InFrame) (a : Answer) : (s.answerFrame f a).lnk.rx = s.lnk.rx := rfl
@[simp] theorem State.answerFrame_lnk_inbound (f : InFrame) (a : Answer) : (s.answerFrame f a).lnk.inbound = s.lnk.inbound := rfl
@[simp] theorem State.answerFrame_lnk_handed (f : InFrame) (a : Answer) : (s.answerFrame f a).lnk.handed = s.lnk.handed := rfl
@[simp] theorem State.answerFrame_lnk_sending (f : InFrame) (a : Answer) : (s.answerFrame f a).lnk.sending = s.lnk.sending := rfl
@[simp] theorem State.answerFrame_lnk_replyRun (f : InFrame) (a : Answer) : (s.answerFrame f a).lnk.replyRun = s.lnk.replyRun := rfl
@[simp] theorem State.answerFrame_lnk_badCheck (f : InFrame) (a : Answer) : (s.answerFrame f a).lnk.badCheck = s.lnk.badCheck := rfl
@[simp] theorem State.answerFrame_lnk_malformed (f : InFrame) (a : Answer) : (s.answerFrame f a).lnk.malformed = s.lnk.malformed := rfl
@[simp] theorem State.answerFrame_lnk_overruns (f : InFrame) (a : Answer) : (s.answerFrame f a).lnk.overruns = s.lnk.overruns := rfl

/-! ### sendReply -/

@[simp] theorem State.sendReply_ctb (r : Reply) (rest : List Reply) (n : Nat) : (s.sendReply r rest n).ctb = s.ctb := rfl
@[simp] theorem State.sendReply_rse (r : Reply) (rest : List Reply) (n : Nat) : (s.sendReply r rest n).rse = s.rse := rfl
@[simp] theorem State.sendReply_clk (r : Reply) (rest : List Reply) (n : Nat) : (s.sendReply r rest n).clk = s.clk := rfl
@[simp] theorem State.sendReply_rte (r : Reply) (rest : List Reply) (n : Nat) : (s.sendReply r rest n).rte = s.rte := rfl
@[simp] theorem State.sendReply_sac (r : Reply) (rest : List Reply) (n : Nat) : (s.sendReply r rest n).sac = s.sac := rfl
@[simp] theorem State.sendReply_enu (r : Reply) (rest : List Reply) (n : Nat) : (s.sendReply r rest n).enu = s.enu := rfl
@[simp] theorem State.sendReply_pending (r : Reply) (rest : List Reply) (n : Nat) : (s.sendReply r rest n).pending = s.pending := rfl
@[simp] theorem State.sendReply_lnk_phase (r : Reply) (rest : List Reply) (n : Nat) : (s.sendReply r rest n).lnk.phase = s.lnk.phase := rfl
@[simp] theorem State.sendReply_lnk_rx (r : Reply) (rest : List Reply) (n : Nat) : (s.sendReply r rest n).lnk.rx = s.lnk.rx := rfl
@[simp] theorem State.sendReply_lnk_inbound (r : Reply) (rest : List Reply) (n : Nat) : (s.sendReply r rest n).lnk.inbound = s.lnk.inbound := rfl
@[simp] theorem State.sendReply_lnk_handed (r : Reply) (rest : List Reply) (n : Nat) : (s.sendReply r rest n).lnk.handed = s.lnk.handed := rfl
@[simp] theorem State.sendReply_lnk_badCheck (r : Reply) (rest : List Reply) (n : Nat) : (s.sendReply r rest n).lnk.badCheck = s.lnk.badCheck := rfl
@[simp] theorem State.sendReply_lnk_malformed (r : Reply) (rest : List Reply) (n : Nat) : (s.sendReply r rest n).lnk.malformed = s.lnk.malformed := rfl
@[simp] theorem State.sendReply_lnk_overruns (r : Reply) (rest : List Reply) (n : Nat) : (s.sendReply r rest n).lnk.overruns = s.lnk.overruns := rfl

/-! ### sendNotice -/

@[simp] theorem State.sendNotice_ctb (n : Notice) : (s.sendNotice n).ctb = s.ctb := rfl
@[simp] theorem State.sendNotice_rse (n : Notice) : (s.sendNotice n).rse = s.rse := rfl
@[simp] theorem State.sendNotice_clk (n : Notice) : (s.sendNotice n).clk = s.clk := rfl
@[simp] theorem State.sendNotice_rte (n : Notice) : (s.sendNotice n).rte = s.rte := rfl
@[simp] theorem State.sendNotice_sac (n : Notice) : (s.sendNotice n).sac = s.sac := rfl
@[simp] theorem State.sendNotice_pending (n : Notice) : (s.sendNotice n).pending = s.pending := rfl
@[simp] theorem State.sendNotice_lnk_phase (n : Notice) : (s.sendNotice n).lnk.phase = s.lnk.phase := rfl
@[simp] theorem State.sendNotice_lnk_rx (n : Notice) : (s.sendNotice n).lnk.rx = s.lnk.rx := rfl
@[simp] theorem State.sendNotice_lnk_inbound (n : Notice) : (s.sendNotice n).lnk.inbound = s.lnk.inbound := rfl
@[simp] theorem State.sendNotice_lnk_handed (n : Notice) : (s.sendNotice n).lnk.handed = s.lnk.handed := rfl
@[simp] theorem State.sendNotice_lnk_replies (n : Notice) : (s.sendNotice n).lnk.replies = s.lnk.replies := rfl
@[simp] theorem State.sendNotice_lnk_badCheck (n : Notice) : (s.sendNotice n).lnk.badCheck = s.lnk.badCheck := rfl
@[simp] theorem State.sendNotice_lnk_malformed (n : Notice) : (s.sendNotice n).lnk.malformed = s.lnk.malformed := rfl
@[simp] theorem State.sendNotice_lnk_overruns (n : Notice) : (s.sendNotice n).lnk.overruns = s.lnk.overruns := rfl
@[simp] theorem State.sendNotice_enu_kinds (n : Notice) : (s.sendNotice n).enu.kinds = s.enu.kinds := rfl
@[simp] theorem State.sendNotice_enu_elevated (n : Notice) : (s.sendNotice n).enu.elevated = s.enu.elevated := rfl

/-! ### run -/

@[simp] theorem State.run_ctb  : (s.run).ctb = s.ctb := rfl
@[simp] theorem State.run_rse  : (s.run).rse = s.rse := rfl
@[simp] theorem State.run_clk  : (s.run).clk = s.clk := rfl
@[simp] theorem State.run_rte  : (s.run).rte = s.rte := rfl
@[simp] theorem State.run_sac  : (s.run).sac = s.sac := rfl
@[simp] theorem State.run_enu  : (s.run).enu = s.enu := rfl
@[simp] theorem State.run_pending  : (s.run).pending = s.pending := rfl
@[simp] theorem State.run_lnk_rx  : (s.run).lnk.rx = s.lnk.rx := rfl
@[simp] theorem State.run_lnk_inbound  : (s.run).lnk.inbound = s.lnk.inbound := rfl
@[simp] theorem State.run_lnk_handed  : (s.run).lnk.handed = s.lnk.handed := rfl
@[simp] theorem State.run_lnk_replies  : (s.run).lnk.replies = s.lnk.replies := rfl
@[simp] theorem State.run_lnk_sending  : (s.run).lnk.sending = s.lnk.sending := rfl
@[simp] theorem State.run_lnk_replyRun  : (s.run).lnk.replyRun = s.lnk.replyRun := rfl
@[simp] theorem State.run_lnk_badCheck  : (s.run).lnk.badCheck = s.lnk.badCheck := rfl
@[simp] theorem State.run_lnk_malformed  : (s.run).lnk.malformed = s.lnk.malformed := rfl
@[simp] theorem State.run_lnk_overruns  : (s.run).lnk.overruns = s.lnk.overruns := rfl

/-! ### withPending -/

@[simp] theorem State.withPending_lnk (q : List Instr) : (s.withPending q).lnk = s.lnk := rfl
@[simp] theorem State.withPending_ctb (q : List Instr) : (s.withPending q).ctb = s.ctb := rfl
@[simp] theorem State.withPending_rse (q : List Instr) : (s.withPending q).rse = s.rse := rfl
@[simp] theorem State.withPending_clk (q : List Instr) : (s.withPending q).clk = s.clk := rfl
@[simp] theorem State.withPending_rte (q : List Instr) : (s.withPending q).rte = s.rte := rfl
@[simp] theorem State.withPending_sac (q : List Instr) : (s.withPending q).sac = s.sac := rfl
@[simp] theorem State.withPending_enu (q : List Instr) : (s.withPending q).enu = s.enu := rfl

/-! ### changeGroup -/

@[simp] theorem State.changeGroup_lnk (g : Nat) (f : Group → Group) : (s.changeGroup g f).lnk = s.lnk := by unfold State.changeGroup; split <;> rfl
@[simp] theorem State.changeGroup_rse (g : Nat) (f : Group → Group) : (s.changeGroup g f).rse = s.rse := by unfold State.changeGroup; split <;> rfl
@[simp] theorem State.changeGroup_clk (g : Nat) (f : Group → Group) : (s.changeGroup g f).clk = s.clk := by unfold State.changeGroup; split <;> rfl
@[simp] theorem State.changeGroup_rte (g : Nat) (f : Group → Group) : (s.changeGroup g f).rte = s.rte := by unfold State.changeGroup; split <;> rfl
@[simp] theorem State.changeGroup_sac (g : Nat) (f : Group → Group) : (s.changeGroup g f).sac = s.sac := by unfold State.changeGroup; split <;> rfl
@[simp] theorem State.changeGroup_enu (g : Nat) (f : Group → Group) : (s.changeGroup g f).enu = s.enu := by unfold State.changeGroup; split <;> rfl
@[simp] theorem State.changeGroup_pending (g : Nat) (f : Group → Group) : (s.changeGroup g f).pending = s.pending := by unfold State.changeGroup; split <;> rfl

/-! ### changeContext -/

@[simp] theorem State.changeContext_lnk (n : Nat) (f : Context → Context) : (s.changeContext n f).lnk = s.lnk := by unfold State.changeContext; split <;> rfl
@[simp] theorem State.changeContext_ctb (n : Nat) (f : Context → Context) : (s.changeContext n f).ctb = s.ctb := by unfold State.changeContext; split <;> rfl
@[simp] theorem State.changeContext_clk (n : Nat) (f : Context → Context) : (s.changeContext n f).clk = s.clk := by unfold State.changeContext; split <;> rfl
@[simp] theorem State.changeContext_rte (n : Nat) (f : Context → Context) : (s.changeContext n f).rte = s.rte := by unfold State.changeContext; split <;> rfl
@[simp] theorem State.changeContext_sac (n : Nat) (f : Context → Context) : (s.changeContext n f).sac = s.sac := by unfold State.changeContext; split <;> rfl
@[simp] theorem State.changeContext_enu (n : Nat) (f : Context → Context) : (s.changeContext n f).enu = s.enu := by unfold State.changeContext; split <;> rfl
@[simp] theorem State.changeContext_pending (n : Nat) (f : Context → Context) : (s.changeContext n f).pending = s.pending := by unfold State.changeContext; split <;> rfl
@[simp] theorem State.changeContext_rse_dests (n : Nat) (f : Context → Context) : (s.changeContext n f).rse.dests = s.rse.dests := by unfold State.changeContext; split <;> rfl
@[simp] theorem State.changeContext_rse_lists (n : Nat) (f : Context → Context) : (s.changeContext n f).rse.lists = s.rse.lists := by unfold State.changeContext; split <;> rfl
@[simp] theorem State.changeContext_rse_slots (n : Nat) (f : Context → Context) : (s.changeContext n f).rse.slots = s.rse.slots := by unfold State.changeContext; split <;> rfl
@[simp] theorem State.changeContext_rse_sweep (n : Nat) (f : Context → Context) : (s.changeContext n f).rse.sweep = s.rse.sweep := by unfold State.changeContext; split <;> rfl

/-! ### setCircuit -/

@[simp] theorem State.setCircuit_lnk (g m : Nat) (c : Circuit) : (s.setCircuit g m c).lnk = s.lnk := by simp [State.setCircuit]
@[simp] theorem State.setCircuit_rse (g m : Nat) (c : Circuit) : (s.setCircuit g m c).rse = s.rse := by simp [State.setCircuit]
@[simp] theorem State.setCircuit_clk (g m : Nat) (c : Circuit) : (s.setCircuit g m c).clk = s.clk := by simp [State.setCircuit]
@[simp] theorem State.setCircuit_rte (g m : Nat) (c : Circuit) : (s.setCircuit g m c).rte = s.rte := by simp [State.setCircuit]
@[simp] theorem State.setCircuit_sac (g m : Nat) (c : Circuit) : (s.setCircuit g m c).sac = s.sac := by simp [State.setCircuit]
@[simp] theorem State.setCircuit_enu (g m : Nat) (c : Circuit) : (s.setCircuit g m c).enu = s.enu := by simp [State.setCircuit]
@[simp] theorem State.setCircuit_pending (g m : Nat) (c : Circuit) : (s.setCircuit g m c).pending = s.pending := by simp [State.setCircuit]

/-! ### countTally -/

@[simp] theorem State.countTally_lnk (g : Nat) (f : Tallies → Tallies) : (s.countTally g f).lnk = s.lnk := by simp [State.countTally]
@[simp] theorem State.countTally_rse (g : Nat) (f : Tallies → Tallies) : (s.countTally g f).rse = s.rse := by simp [State.countTally]
@[simp] theorem State.countTally_clk (g : Nat) (f : Tallies → Tallies) : (s.countTally g f).clk = s.clk := by simp [State.countTally]
@[simp] theorem State.countTally_rte (g : Nat) (f : Tallies → Tallies) : (s.countTally g f).rte = s.rte := by simp [State.countTally]
@[simp] theorem State.countTally_sac (g : Nat) (f : Tallies → Tallies) : (s.countTally g f).sac = s.sac := by simp [State.countTally]
@[simp] theorem State.countTally_enu (g : Nat) (f : Tallies → Tallies) : (s.countTally g f).enu = s.enu := by simp [State.countTally]
@[simp] theorem State.countTally_pending (g : Nat) (f : Tallies → Tallies) : (s.countTally g f).pending = s.pending := by simp [State.countTally]

/-! ### raiseBypass -/

@[simp] theorem State.raiseBypass_lnk (n l : Nat) : (s.raiseBypass n l).lnk = s.lnk := by simp [State.raiseBypass]
@[simp] theorem State.raiseBypass_ctb (n l : Nat) : (s.raiseBypass n l).ctb = s.ctb := by simp [State.raiseBypass]
@[simp] theorem State.raiseBypass_clk (n l : Nat) : (s.raiseBypass n l).clk = s.clk := by simp [State.raiseBypass]
@[simp] theorem State.raiseBypass_rte (n l : Nat) : (s.raiseBypass n l).rte = s.rte := by simp [State.raiseBypass]
@[simp] theorem State.raiseBypass_sac (n l : Nat) : (s.raiseBypass n l).sac = s.sac := by simp [State.raiseBypass]
@[simp] theorem State.raiseBypass_enu (n l : Nat) : (s.raiseBypass n l).enu = s.enu := by simp [State.raiseBypass]
@[simp] theorem State.raiseBypass_pending (n l : Nat) : (s.raiseBypass n l).pending = s.pending := by simp [State.raiseBypass]
@[simp] theorem State.raiseBypass_rse_dests (n l : Nat) : (s.raiseBypass n l).rse.dests = s.rse.dests := by simp [State.raiseBypass]
@[simp] theorem State.raiseBypass_rse_lists (n l : Nat) : (s.raiseBypass n l).rse.lists = s.rse.lists := by simp [State.raiseBypass]
@[simp] theorem State.raiseBypass_rse_slots (n l : Nat) : (s.raiseBypass n l).rse.slots = s.rse.slots := by simp [State.raiseBypass]
@[simp] theorem State.raiseBypass_rse_sweep (n l : Nat) : (s.raiseBypass n l).rse.sweep = s.rse.sweep := by simp [State.raiseBypass]

/-! ### choose, idleChoice -/

@[simp] theorem State.choose_ctb : s.choose.ctb = s.ctb := by
  unfold State.choose
  repeat (first | rfl | split)
@[simp] theorem State.choose_rse : s.choose.rse = s.rse := by
  unfold State.choose
  repeat (first | rfl | split)
@[simp] theorem State.choose_clk : s.choose.clk = s.clk := by
  unfold State.choose
  repeat (first | rfl | split)
@[simp] theorem State.choose_rte : s.choose.rte = s.rte := by
  unfold State.choose
  repeat (first | rfl | split)
@[simp] theorem State.choose_sac : s.choose.sac = s.sac := by
  unfold State.choose
  repeat (first | rfl | split)
@[simp] theorem State.choose_pending : s.choose.pending = s.pending := by
  unfold State.choose
  repeat (first | rfl | split)
@[simp] theorem State.idleChoice_ctb : s.idleChoice.ctb = s.ctb := by
  unfold State.idleChoice
  split
  · exact s.choose_ctb
  · rfl
@[simp] theorem State.idleChoice_rse : s.idleChoice.rse = s.rse := by
  unfold State.idleChoice
  split
  · exact s.choose_rse
  · rfl
@[simp] theorem State.idleChoice_clk : s.idleChoice.clk = s.clk := by
  unfold State.idleChoice
  split
  · exact s.choose_clk
  · rfl
@[simp] theorem State.idleChoice_rte : s.idleChoice.rte = s.rte := by
  unfold State.idleChoice
  split
  · exact s.choose_rte
  · rfl
@[simp] theorem State.idleChoice_sac : s.idleChoice.sac = s.sac := by
  unfold State.idleChoice
  split
  · exact s.choose_sac
  · rfl
@[simp] theorem State.idleChoice_pending : s.idleChoice.pending = s.pending := by
  unfold State.idleChoice
  split
  · exact s.choose_pending
  · rfl

/-- A transmitter that sends makes no choice (R190). -/
theorem State.idleChoice_sending (h : s.lnk.sending ≠ none) : s.idleChoice = s := if_neg h

/-- With no event waiting, an idle transmitter sends the oldest reply (R190). -/
theorem State.choose_reply {r : Reply} {t : List Reply} (hn : s.enu.pick s.enu.notices = none) (hr : s.lnk.replies = r :: t) :
    s.choose = s.sendReply r t 0 := by
  simp [State.choose, hn, hr]

/-- With no reply waiting, an idle transmitter sends the event chosen (R190). -/
theorem State.choose_notice {n : Notice} (hn : s.enu.pick s.enu.notices = some n) (hr : s.lnk.replies = []) :
    s.choose = s.sendNotice n := by
  simp [State.choose, hn, hr]

/-! ### restartValues -/

@[simp] theorem State.restartValues_lnk : s.restartValues.lnk = s.lnk := rfl
@[simp] theorem State.restartValues_clk : s.restartValues.clk = s.clk := rfl
@[simp] theorem State.restartValues_rte : s.restartValues.rte = s.rte := rfl
@[simp] theorem State.restartValues_sac : s.restartValues.sac = s.sac := rfl
@[simp] theorem State.restartValues_pending : s.restartValues.pending = s.pending := rfl
@[simp] theorem State.restartValues_notices : s.restartValues.enu.notices = [] := rfl

/-! ### What the updates write -/

@[simp] theorem State.setGroup_groups (g : Nat) (r : Group) : (s.setGroup g r).ctb.groups = tput s.ctb.groups g r := rfl
@[simp] theorem State.deleteGroup_groups (g : Nat) : (s.deleteGroup g).ctb.groups = tdel s.ctb.groups g := rfl
@[simp] theorem State.mapGroups_groups (f : Group → Group) : (s.mapGroups f).ctb.groups = tmap f s.ctb.groups := rfl
@[simp] theorem State.setContext_contexts (n : Nat) (c : Context) :
    (s.setContext n c).rse.contexts = tput s.rse.contexts n c := rfl
@[simp] theorem State.freeContext_contexts (n : Nat) : (s.freeContext n).rse.contexts = tdel s.rse.contexts n := rfl
@[simp] theorem State.setDest_dests (i : Nat) (d : Dest) : (s.setDest i d).rse.dests = tput s.rse.dests i d := rfl
@[simp] theorem State.clearDest_dests (i : Nat) : (s.clearDest i).rse.dests = tdel s.rse.dests i := rfl
@[simp] theorem State.setSlot_slots (i : Fin 16) (x : Slot) : (s.setSlot i x).rse.slots = s.rse.slots.set i.val x i.isLt := rfl
@[simp] theorem State.setSweep_sweep (w : Option Sweep) : (s.setSweep w).rse.sweep = w := rfl
@[simp] theorem State.setCarrier_carriers (i : Fin 63) (c : Carrier) :
    (s.setCarrier i c).sac.carriers = s.sac.carriers.set i.val c i.isLt := rfl
@[simp] theorem State.nextSequence_sequence : s.nextSequence.sac.sequence = s.sac.sequence + 1 := rfl
@[simp] theorem State.nextPeriod_period : s.nextPeriod.sac.period = (s.sac.period + 1) % 65536 := rfl
@[simp] theorem State.settleGuard_guarded (b : Bool) :
    (s.settleGuard b).sac.guarded = if b then s.sac.guarded - 1 else s.sac.guarded := by cases b <;> rfl
@[simp] theorem State.admit_guarded (b : Bool) :
    (s.admitLeg b).sac.guarded = if b then s.sac.guarded + 1 else s.sac.guarded := by cases b <;> rfl
@[simp] theorem State.withHanded_handed (h : Handed) : (s.withHanded h).lnk.handed = some h := rfl
@[simp] theorem State.place_handed (k : Byte) (tag : BitVec 16) (a : Answer) : (s.place k tag a).lnk.handed = none := rfl
@[simp] theorem State.place_replies (k : Byte) (tag : BitVec 16) (a : Answer) :
    (s.place k tag a).lnk.replies = s.lnk.replies ++ [⟨replyCode k, tag, a⟩] := rfl
@[simp] theorem State.setRx_rx (r : Receiver) : (s.setRx r).lnk.rx = r := rfl
@[simp] theorem State.run_phase : s.run.lnk.phase = .running := rfl
@[simp] theorem State.withPending_pending (q : List Instr) : (s.withPending q).pending = q := rfl
@[simp] theorem State.sendNotice_notices (n : Notice) : (s.sendNotice n).enu.notices = s.enu.notices.erase n := rfl

/-- A request handed on and then answered leaves LNK as the reply alone makes it. -/
@[simp] theorem State.withHanded_place (h : Handed) (k : Byte) (tag : BitVec 16) (a : Answer) :
    (s.withHanded h).place k tag a = s.place k tag a := rfl

/-- The link after a reply is placed. -/
@[simp] theorem State.place_lnk (k : Byte) (tag : BitVec 16) (a : Answer) : (s.place k tag a).lnk = s.lnk.answered k tag a := rfl

end Sys2Proof.Machine
end

