-- ==== Sys2Proof/Laws/Table.lean ====
section
/-! SUPPORT. The laws of the sparse tables: a read after a write, what a write leaves alone, and that every operation keeps the
canonical form. -/

namespace Sys2Proof.Machine

variable {α : Type} (t : Table α) (n k : Nat) (x : α)

/-- A read after a write of the same number gives the value written. -/
@[simp] theorem tget_tput_same : tget (tput t n x) n = some x := by
  induction t with
  | nil => simp [tput, tget]
  | cons e t ih =>
    obtain ⟨j, v⟩ := e
    by_cases h1 : n < j
    · simp [tput, tget, h1]
    · by_cases h2 : j = n
      · simp [tput, tget, h2]
      · simp [tput, tget, h1, h2, ih]

/-- A write leaves every other number alone. -/
theorem tget_tput_other (h : k ≠ n) : tget (tput t n x) k = tget t k := by
  induction t with
  | nil => simp [tput, tget, Ne.symm h]
  | cons e t ih =>
    obtain ⟨j, v⟩ := e
    by_cases h1 : n < j
    · simp [tput, tget, h1, Ne.symm h]
    · by_cases h2 : j = n
      · subst h2; simp [tput, tget, Ne.symm h]
      · simp only [tput, if_neg h1, if_neg h2, tget]; rw [ih]

/-- A removed number has no entry. -/
@[simp] theorem tget_tdel_same : tget (tdel t n) n = none := by
  induction t with
  | nil => simp [tdel, tget]
  | cons e t ih =>
    obtain ⟨j, v⟩ := e
    by_cases h : j = n
    · simp [tdel, h, ih]
    · simp [tdel, tget, h, ih]

/-- A removal leaves every other number alone. -/
theorem tget_tdel_other (h : k ≠ n) : tget (tdel t n) k = tget t k := by
  induction t with
  | nil => simp [tdel]
  | cons e t ih =>
    obtain ⟨j, v⟩ := e
    by_cases h2 : j = n
    · subst h2; simp [tdel, tget, Ne.symm h, ih]
    · simp only [tdel, if_neg h2, tget]; rw [ih]

/-- A read after a change of every value. -/
@[simp] theorem tget_tmap (f : α → α) : tget (tmap f t) n = (tget t n).map f := by
  induction t with
  | nil => simp [tmap, tget]
  | cons e t ih =>
    obtain ⟨j, v⟩ := e
    by_cases h : j = n <;> simp [tmap, tget, h, ih]

/-- An entry that is read is in the table. -/
theorem mem_of_tget {t : Table α} {n : Nat} {x : α} (h : tget t n = some x) : (n, x) ∈ t := by
  induction t with
  | nil => simp [tget] at h
  | cons e t ih =>
    obtain ⟨j, v⟩ := e
    by_cases h2 : j = n
    · simp [tget, h2] at h; simp [h2, h]
    · simp [tget, h2] at h; exact List.mem_cons_of_mem _ (ih h)

/-- What a write puts in the table: the new entry, and entries that were there. -/
theorem mem_tput {e : Nat × α} (h : e ∈ tput t n x) : e = (n, x) ∨ e ∈ t := by
  induction t with
  | nil => simpa [tput] using h
  | cons d t ih =>
    obtain ⟨j, v⟩ := d
    by_cases h1 : n < j
    · simpa [tput, h1] using h
    · by_cases h2 : j = n
      · simp only [tput, if_neg h1, if_pos h2, List.mem_cons] at h
        rcases h with h | h
        · exact .inl h
        · exact .inr (List.mem_cons_of_mem _ h)
      · simp only [tput, if_neg h1, if_neg h2, List.mem_cons] at h
        rcases h with h | h
        · exact .inr (by simp [h])
        · exact (ih h).imp id (List.mem_cons_of_mem _)

/-- A removal adds nothing. -/
theorem mem_tdel {e : Nat × α} (h : e ∈ tdel t n) : e ∈ t := by
  induction t with
  | nil => simp [tdel] at h
  | cons d t ih =>
    obtain ⟨j, v⟩ := d
    by_cases h2 : j = n
    · simp only [tdel, if_pos h2] at h; exact List.mem_cons_of_mem _ (ih h)
    · simp only [tdel, if_neg h2, List.mem_cons] at h
      rcases h with h | h
      · simp [h]
      · exact List.mem_cons_of_mem _ (ih h)

/-- What a change of every value puts in the table. -/
theorem mem_tmap {f : α → α} {e : Nat × α} : e ∈ tmap f t ↔ ∃ d ∈ t, e = (d.1, f d.2) := by
  induction t with
  | nil => simp [tmap]
  | cons d t ih => obtain ⟨j, v⟩ := d; simp [tmap, ih]

/-! ### The canonical form -/

theorem tableWf_nil : tableWf ([] : Table α) = true := by simp [tableWf]

theorem tableWf_cons {e : Nat × α} {t : Table α} :
    tableWf (e :: t) = true ↔ (∀ d ∈ t, e.1 < d.1) ∧ tableWf t = true := by
  simp [tableWf]

/-- A write keeps the canonical form. -/
theorem tableWf_tput (h : tableWf t = true) : tableWf (tput t n x) = true := by
  induction t with
  | nil => simp [tput, tableWf]
  | cons d t ih =>
    obtain ⟨j, v⟩ := d
    obtain ⟨hd, ht⟩ := tableWf_cons.1 h
    by_cases h1 : n < j
    · simp only [tput, if_pos h1]
      exact tableWf_cons.2 ⟨by
        intro e he; rcases List.mem_cons.1 he with rfl | he
        · exact h1
        · exact h1.trans (hd e he), h⟩
    · by_cases h2 : j = n
      · subst h2; simp only [tput, if_neg h1, if_true]; exact tableWf_cons.2 ⟨hd, ht⟩
      · simp only [tput, if_neg h1, if_neg h2]
        refine tableWf_cons.2 ⟨fun e he => ?_, ih ht⟩
        rcases mem_tput t n x he with rfl | he
        · simp only; omega
        · exact hd e he

/-- A removal keeps the canonical form. -/
theorem tableWf_tdel (h : tableWf t = true) : tableWf (tdel t n) = true := by
  induction t with
  | nil => simp [tdel, tableWf]
  | cons d t ih =>
    obtain ⟨j, v⟩ := d
    obtain ⟨hd, ht⟩ := tableWf_cons.1 h
    by_cases h2 : j = n
    · simpa [tdel, h2] using ih ht
    · simp only [tdel, if_neg h2]
      exact tableWf_cons.2 ⟨fun e he => hd e (mem_tdel t n he), ih ht⟩

/-- A change of every value keeps the canonical form. -/
theorem tableWf_tmap (f : α → α) (h : tableWf t = true) : tableWf (tmap f t) = true := by
  induction t with
  | nil => simp [tmap, tableWf]
  | cons d t ih =>
    obtain ⟨j, v⟩ := d
    obtain ⟨hd, ht⟩ := tableWf_cons.1 h
    refine tableWf_cons.2 ⟨fun e he => ?_, ih ht⟩
    obtain ⟨d, hd2, rfl⟩ := (mem_tmap t).1 he
    exact hd d hd2

/-- In the canonical form, what is in the table is what is read. -/
theorem tget_of_mem {t : Table α} {n : Nat} {x : α} (h : tableWf t = true) (hm : (n, x) ∈ t) : tget t n = some x := by
  induction t with
  | nil => simp at hm
  | cons d t ih =>
    obtain ⟨j, v⟩ := d
    obtain ⟨hd, ht⟩ := tableWf_cons.1 h
    rcases List.mem_cons.1 hm with he | hm
    · cases he; simp [tget]
    · have := hd _ hm
      simp only at this
      simp [tget, Nat.ne_of_lt this, ih ht hm]

/-- The lowest free number has no entry, lies in the range looked at, and every lower number looked at has one. -/
theorem lowestFree_spec (fuel i : Nat) {m : Nat} (h : lowestFree t fuel i = some m) :
    tget t m = none ∧ i ≤ m ∧ m < i + fuel ∧ ∀ j, i ≤ j → j < m → tget t j ≠ none := by
  induction fuel generalizing i with
  | zero => simp [lowestFree] at h
  | succ f ih =>
    by_cases h1 : tget t i = none
    · simp [lowestFree, h1] at h
      subst h; exact ⟨h1, le_refl _, by omega, fun j a b => by omega⟩
    · have h2 : (tget t i).isNone = false := by cases h3 : tget t i <;> simp_all
      simp [lowestFree, h2] at h
      obtain ⟨a, b, c, d⟩ := ih (i + 1) h
      exact ⟨a, by omega, by omega, fun j hj hm => if hji : j = i then hji ▸ h1 else d j (by omega) hm⟩

end Sys2Proof.Machine
end

