-- ==== Sys2Proof/Laws/Events.lean ====
section
/-! SUPPORT. What raising an event can do (R173 to R176, R94): change the notice queue and the states of overlay slots, and nothing
else. What each operation that raises events can do follows from it. -/

namespace Sys2Proof.Machine

/-- Two states that differ at most in the notice queue and in the overlay slots. -/
def EventOnly (s t : State) : Prop :=
  ∃ (slots : Vector Slot 16) (notices : List Notice),
    t = { s with rse := { s.rse with slots }, enu := { s.enu with notices } }

theorem EventOnly.refl (s : State) : EventOnly s s := ⟨s.rse.slots, s.enu.notices, rfl⟩

theorem EventOnly.trans {s t u : State} (h : EventOnly s t) (h' : EventOnly t u) : EventOnly s u := by
  obtain ⟨a, b, rfl⟩ := h
  obtain ⟨c, d, rfl⟩ := h'
  exact ⟨c, d, rfl⟩

/-- Step 1 of R173 changes the notice queue at most. -/
theorem note_eventOnly (s : State) (e : Event) : EventOnly s (s.note e) := by
  unfold State.note
  split
  · exact ⟨_, _, rfl⟩
  · exact EventOnly.refl s

/-- A slot's change of state, with its event (R99). -/
theorem changeSlot_eventOnly (s : State) (i : Fin 16) (new : SlotState) (c : OverlayCause) :
    EventOnly s (s.changeSlot i new c) :=
  EventOnly.trans ⟨_, _, rfl⟩ (note_eventOnly _ _)

theorem evalSlot_eventOnly (s : State) (e : Event) (i : Fin 16) : EventOnly s (s.evalSlot e i) := by
  unfold State.evalSlot
  dsimp only
  split
  · exact changeSlot_eventOnly _ _ _ _
  · exact changeSlot_eventOnly _ _ _ _
  · exact EventOnly.refl s

theorem foldl_eventOnly {α : Type} (f : State → α → State) (hf : ∀ s a, EventOnly s (f s a)) (l : List α) (s : State) :
    EventOnly s (l.foldl f s) := by
  induction l generalizing s with
  | nil => exact EventOnly.refl s
  | cons a l ih => exact (hf s a).trans (ih _)

theorem handToSlots_eventOnly (s : State) (e : Event) : EventOnly s (s.handToSlots e) := by
  unfold State.handToSlots
  split
  · exact foldl_eventOnly _ (fun s i => evalSlot_eventOnly s e i) _ _
  · exact EventOnly.refl s

/-- Raising an event changes the notice queue and the overlay slots at most (R173). -/
theorem raise_eventOnly (s : State) (e : Event) : EventOnly s (s.raise e) :=
  (note_eventOnly s e).trans (handToSlots_eventOnly _ e)

section Fields
variable (s : State) (e : Event)

@[simp] theorem raise_lnk : (s.raise e).lnk = s.lnk := by obtain ⟨_, _, h⟩ := raise_eventOnly s e; rw [h]
@[simp] theorem raise_ctb : (s.raise e).ctb = s.ctb := by obtain ⟨_, _, h⟩ := raise_eventOnly s e; rw [h]
@[simp] theorem raise_clk : (s.raise e).clk = s.clk := by obtain ⟨_, _, h⟩ := raise_eventOnly s e; rw [h]
@[simp] theorem raise_rte : (s.raise e).rte = s.rte := by obtain ⟨_, _, h⟩ := raise_eventOnly s e; rw [h]
@[simp] theorem raise_sac : (s.raise e).sac = s.sac := by obtain ⟨_, _, h⟩ := raise_eventOnly s e; rw [h]
@[simp] theorem raise_pending : (s.raise e).pending = s.pending := by obtain ⟨_, _, h⟩ := raise_eventOnly s e; rw [h]
@[simp] theorem raise_dests : (s.raise e).rse.dests = s.rse.dests := by obtain ⟨_, _, h⟩ := raise_eventOnly s e; rw [h]
@[simp] theorem raise_lists : (s.raise e).rse.lists = s.rse.lists := by obtain ⟨_, _, h⟩ := raise_eventOnly s e; rw [h]
@[simp] theorem raise_contexts : (s.raise e).rse.contexts = s.rse.contexts := by
  obtain ⟨_, _, h⟩ := raise_eventOnly s e; rw [h]
@[simp] theorem raise_sweep : (s.raise e).rse.sweep = s.rse.sweep := by obtain ⟨_, _, h⟩ := raise_eventOnly s e; rw [h]
@[simp] theorem raise_kinds : (s.raise e).enu.kinds = s.enu.kinds := by obtain ⟨_, _, h⟩ := raise_eventOnly s e; rw [h]
@[simp] theorem raise_elevated : (s.raise e).enu.elevated = s.enu.elevated := by
  obtain ⟨_, _, h⟩ := raise_eventOnly s e; rw [h]

end Fields

/-! ### Reads through the tables -/

theorem group?_congr {s t : State} (h : t.ctb = s.ctb) (g : Nat) : t.group? g = s.group? g := by
  unfold State.group?; rw [h]

theorem circuit?_congr {s t : State} (h : t.ctb = s.ctb) (g m : Nat) : t.circuit? g m = s.circuit? g m := by
  unfold State.circuit?; rw [group?_congr h]

theorem context?_congr {s t : State} (h : t.rse.contexts = s.rse.contexts) (n : Nat) : t.context? n = s.context? n := by
  unfold State.context?; rw [h]

theorem dest?_congr {s t : State} (h : t.rse.dests = s.rse.dests) (i : Nat) : t.dest? i = s.dest? i := by
  unfold State.dest?; rw [h]

@[simp] theorem raise_group? (s : State) (e : Event) (g : Nat) : (s.raise e).group? g = s.group? g := group?_congr (by simp) g
@[simp] theorem raise_circuit? (s : State) (e : Event) (g m : Nat) : (s.raise e).circuit? g m = s.circuit? g m :=
  circuit?_congr (by simp) g m
@[simp] theorem raise_context? (s : State) (e : Event) (n : Nat) : (s.raise e).context? n = s.context? n :=
  context?_congr (by simp) n
@[simp] theorem raise_dest? (s : State) (e : Event) (i : Nat) : (s.raise e).dest? i = s.dest? i := dest?_congr (by simp) i

/-- A group that is read has a number below 256. -/
theorem lt_of_group? {s : State} {g : Nat} {r : Group} (h : s.group? g = some r) : g < Config.groups := by
  unfold State.group? at h
  split at h
  · assumption
  · cases h

/-- A group written below 256 is read back. -/
theorem setGroup_group?_same (s : State) (g : Nat) (r : Group) (h : g < Config.groups) : (s.setGroup g r).group? g = some r := by
  simp [State.group?, h]

/-- A write of one group leaves the others alone. -/
theorem setGroup_group?_other (s : State) (g k : Nat) (r : Group) (h : k ≠ g) : (s.setGroup g r).group? k = s.group? k := by
  unfold State.group?; rw [State.setGroup_groups, tget_tput_other _ _ _ _ h]

/-- A context written is read back. -/
@[simp] theorem setContext_context?_same (s : State) (n : Nat) (c : Context) : (s.setContext n c).context? n = some c := by
  simp [State.context?]

/-- A write of one context leaves the others alone. -/
theorem setContext_context?_other (s : State) (n k : Nat) (c : Context) (h : k ≠ n) :
    (s.setContext n c).context? k = s.context? k := by
  unfold State.context?; rw [State.setContext_contexts, tget_tput_other _ _ _ _ h]

/-- A freed context holds no call. -/
@[simp] theorem freeContext_context?_same (s : State) (n : Nat) : (s.freeContext n).context? n = none := by
  simp [State.context?]

/-- Freeing one context leaves the others alone. -/
theorem freeContext_context?_other (s : State) (n k : Nat) (h : k ≠ n) : (s.freeContext n).context? k = s.context? k := by
  unfold State.context?; rw [State.freeContext_contexts, tget_tdel_other _ _ _ h]

/-! ### Operations on groups that raise events -/

/-- Two states that differ at most in the record of group `g`, the notice queue and the overlay slots. -/
def GroupOnly (g : Nat) (s t : State) : Prop :=
  (t.lnk = s.lnk ∧ t.clk = s.clk ∧ t.rte = s.rte ∧ t.sac = s.sac ∧ t.pending = s.pending) ∧
  (t.rse.dests = s.rse.dests ∧ t.rse.lists = s.rse.lists ∧ t.rse.contexts = s.rse.contexts ∧ t.rse.sweep = s.rse.sweep) ∧
  (t.enu.kinds = s.enu.kinds ∧ t.enu.elevated = s.enu.elevated) ∧
  ∀ k, k ≠ g → t.group? k = s.group? k

theorem GroupOnly.refl (g : Nat) (s : State) : GroupOnly g s s :=
  ⟨⟨rfl, rfl, rfl, rfl, rfl⟩, ⟨rfl, rfl, rfl, rfl⟩, ⟨rfl, rfl⟩, fun _ _ => rfl⟩

theorem GroupOnly.trans {g : Nat} {s t u : State} (h : GroupOnly g s t) (h' : GroupOnly g t u) : GroupOnly g s u := by
  obtain ⟨⟨a1, a2, a3, a4, a5⟩, ⟨b1, b2, b3, b4⟩, ⟨c1, c2⟩, d⟩ := h
  obtain ⟨⟨a1', a2', a3', a4', a5'⟩, ⟨b1', b2', b3', b4'⟩, ⟨c1', c2'⟩, d'⟩ := h'
  exact ⟨⟨a1'.trans a1, a2'.trans a2, a3'.trans a3, a4'.trans a4, a5'.trans a5⟩,
    ⟨b1'.trans b1, b2'.trans b2, b3'.trans b3, b4'.trans b4⟩, ⟨c1'.trans c1, c2'.trans c2⟩,
    fun k hk => (d' k hk).trans (d k hk)⟩

theorem GroupOnly.raise (g : Nat) (s : State) (e : Event) : GroupOnly g s (s.raise e) := by
  refine ⟨⟨?_, ?_, ?_, ?_, ?_⟩, ⟨?_, ?_, ?_, ?_⟩, ⟨?_, ?_⟩, fun k _ => ?_⟩ <;> simp

theorem GroupOnly.setGroup (g : Nat) (s : State) (r : Group) : GroupOnly g s (s.setGroup g r) :=
  ⟨⟨rfl, rfl, rfl, rfl, rfl⟩, ⟨rfl, rfl, rfl, rfl⟩, ⟨rfl, rfl⟩, fun k hk => setGroup_group?_other s g k r hk⟩

theorem GroupOnly.changeGroup (g : Nat) (s : State) (f : Group → Group) : GroupOnly g s (s.changeGroup g f) := by
  unfold State.changeGroup
  split
  · exact GroupOnly.setGroup g s _
  · exact GroupOnly.refl g s

theorem GroupOnly.setCircuit (g m : Nat) (s : State) (c : Circuit) : GroupOnly g s (s.setCircuit g m c) :=
  GroupOnly.changeGroup g s _

theorem GroupOnly.countTally (g : Nat) (s : State) (f : Tallies → Tallies) : GroupOnly g s (s.countTally g f) :=
  GroupOnly.changeGroup g s _

/-- What setting a score can do (R72, R76). -/
theorem setScore_groupOnly (g n : Nat) (s : State) : GroupOnly g s (s.setScore g n) := by
  unfold State.setScore
  split
  · exact GroupOnly.refl g s
  · dsimp only
    split
    · exact GroupOnly.setGroup g s _
    · exact (GroupOnly.setGroup g s _).trans (GroupOnly.raise g _ _)

/-- The group's record after its score is set: the score changed and nothing else (R72). -/
theorem setScore_group? {g n : Nat} {s : State} {r : Group} (h : s.group? g = some r) :
    (s.setScore g n).group? g = some { r with score := n } := by
  have hg := lt_of_group? h
  unfold State.setScore
  rw [h]
  dsimp only
  split
  · exact setGroup_group?_same s g _ hg
  · rw [raise_group?]; exact setGroup_group?_same s g _ hg

/-- What the entry into BLOCKED can do (R21). -/
theorem enterBlocked_groupOnly (g : Nat) (s : State) : GroupOnly g s (s.enterBlocked g) :=
  ((GroupOnly.changeGroup g s _).trans (setScore_groupOnly g 0 _)).trans (GroupOnly.raise g _ _)

/-- The group's record after its entry into BLOCKED: score 0, sample timer stopped (R21). -/
theorem enterBlocked_group? {g : Nat} {s : State} {r : Group} (h : s.group? g = some r) :
    (s.enterBlocked g).group? g = some { r with state := .blocked, sampleTimer := none, score := 0 } := by
  have hg := lt_of_group? h
  unfold State.enterBlocked
  rw [raise_group?, setScore_group? (r := { r with state := .blocked, sampleTimer := none })]
  unfold State.changeGroup
  rw [h]
  exact setGroup_group?_same s g _ hg

/-- What the drain test can do (R20). -/
theorem drainTest_groupOnly (g : Nat) (s : State) : GroupOnly g s (s.drainTest g) := by
  unfold State.drainTest
  split
  · split
    · exact enterBlocked_groupOnly g s
    · exact GroupOnly.refl g s
  · exact GroupOnly.refl g s

/-- What an ordinary release can do (R12, R20). -/
theorem ordinaryRelease_groupOnly (g m : Nat) (s : State) : GroupOnly g s (s.ordinaryRelease g m) := by
  unfold State.ordinaryRelease
  split
  · split
    · exact (GroupOnly.setGroup g s _).trans (drainTest_groupOnly g _)
    · exact GroupOnly.refl g s
  · exact GroupOnly.refl g s

/-- What a fault release can do (R13, R20). -/
theorem faultRelease_groupOnly (g m : Nat) (s : State) : GroupOnly g s (s.faultRelease g m) := by
  unfold State.faultRelease
  split
  · split
    · exact (((GroupOnly.setCircuit g m s _).trans (GroupOnly.countTally g _ _)).trans (GroupOnly.raise g _ _)).trans
        (drainTest_groupOnly g _)
    · exact GroupOnly.refl g s
  · exact GroupOnly.refl g s

/-! ### The completion of a sweep -/

section Completion
variable (s : State) (w : Sweep)

@[simp] theorem completeSweep_ctb : (s.completeSweep w).ctb = s.restartValues.ctb := by simp [State.completeSweep]
@[simp] theorem completeSweep_clk : (s.completeSweep w).clk = s.clk := by simp [State.completeSweep]
@[simp] theorem completeSweep_rte : (s.completeSweep w).rte = s.rte := by simp [State.completeSweep]
@[simp] theorem completeSweep_sac : (s.completeSweep w).sac = s.sac := by simp [State.completeSweep]
@[simp] theorem completeSweep_pending : (s.completeSweep w).pending = s.pending := by simp [State.completeSweep]
@[simp] theorem completeSweep_sweep : (s.completeSweep w).rse.sweep = none := by
  simp [State.completeSweep]; rfl

/-- The reply to TRAFFIC_RESTART stands after every reply of a request taken before the completion (R188). -/
@[simp] theorem completeSweep_replies : (s.completeSweep w).lnk.replies =
    s.lnk.replies ++ [⟨replyCode 0x49, w.tag, .accepted (.restarted w.rated w.freed)⟩] := by simp [State.completeSweep]

end Completion

end Sys2Proof.Machine
end

