-- ==== Sys2Proof/Laws/PerInstr.lean ====
section
/-! SUPPORT. A fact about every command as syntax: a well-formed request's body has the length R196 gives its kind, and a step of the
part itself has no kind code. -/

namespace Sys2Proof.Laws.WireForm

set_option Elab.async false

open Sys2Proof.Machine

/-- The body written for a well-formed request has the length that R196 gives its kind code. -/
def Statement (i : Instr) : Prop :=
  i.wellFormed = true → ∀ k, requestCode i = some k → requestLength k.toNat (requestBody i) = some (requestBody i).length

/-- A digit field has its count byte and its run (R194). -/
theorem digits_length {len : Nat} {d : DigitField} (h : d.wellFormed len = true) : (digitFieldBytes d).length = len + 1 := by
  simp only [DigitField.wellFormed, Bool.and_eq_true, beq_iff_eq] at h
  simp only [digitFieldBytes, List.length_append, be_length, flatMap_length (be 1) 1 (be_length 1), h.1.2]
  omega

/-- The count byte of a counted body is read back (R196). -/
theorem count_read (pre rest : List Byte) (n : Nat) (h : n < 256) : field (pre ++ be 1 n ++ rest) pre.length 1 = n := by
  unfold field
  rw [List.append_assoc, List.drop_left, List.take_left' (by simp), ofBe_be]
  omega

theorem seizeIn (group member : Nat) (callRef : BitVec 32) (priority : Nat) : Statement (.seizeIn group member callRef priority) := by
  intro _ k hk
  cases hk
  simp [requestLength, requestBody]

theorem route (context budget : Nat) (called : DigitField) : Statement (.route context budget called) := by
  intro h k hk
  cases hk
  simp only [Instr.wellFormed, Bool.and_eq_true] at h
  simp [requestLength, requestBody, digits_length h.2]

theorem continueCall (context : Nat) : Statement (.continueCall context) := by
  intro _ k hk
  cases hk
  simp [requestLength, requestBody]

theorem confirm (context group member : Nat) : Statement (.confirm context group member) := by
  intro _ k hk
  cases hk
  simp [requestLength, requestBody]

theorem failCall (context group member cause continueFlag : Nat) : Statement (.failCall context group member cause continueFlag) := by
  intro _ k hk
  cases hk
  simp [requestLength, requestBody]

theorem answer (context : Nat) : Statement (.answer context) := by
  intro _ k hk
  cases hk
  simp [requestLength, requestBody]

theorem release (context : Nat) : Statement (.release context) := by
  intro _ k hk
  cases hk
  simp [requestLength, requestBody]

theorem farMark (digits : DigitField) (level duration : Nat) : Statement (.farMark digits level duration) := by
  intro h k hk
  cases hk
  simp only [Instr.wellFormed, Bool.and_eq_true] at h
  simp [requestLength, requestBody, digits_length h.1.1]

theorem groupDefine (fields : GroupFields) : Statement (.groupDefine fields) := by
  intro _ k hk
  cases hk
  simp [requestLength, requestBody]

theorem groupBlock (group : Nat) : Statement (.groupBlock group) := by
  intro _ k hk
  cases hk
  simp [requestLength, requestBody]

theorem groupUnblock (group : Nat) : Statement (.groupUnblock group) := by
  intro _ k hk
  cases hk
  simp [requestLength, requestBody]

theorem circuitBlock (group member : Nat) : Statement (.circuitBlock group member) := by
  intro _ k hk
  cases hk
  simp [requestLength, requestBody]

theorem circuitUnblock (group member : Nat) : Statement (.circuitUnblock group member) := by
  intro _ k hk
  cases hk
  simp [requestLength, requestBody]

theorem destSet (digits : DigitField) (list : Nat) : Statement (.destSet digits list) := by
  intro h k hk
  cases hk
  simp only [Instr.wellFormed, Bool.and_eq_true] at h
  simp [requestLength, requestBody, digits_length h.1]

theorem destClear (digits : DigitField) : Statement (.destClear digits) := by
  intro h k hk
  cases hk
  simp [requestLength, requestBody, digits_length h]

theorem listSet (list : Nat) (entries : List (Nat × Nat)) : Statement (.listSet list entries) := by
  intro h k hk
  cases hk
  simp only [Instr.wellFormed, Bool.and_eq_true, decide_eq_true_eq, Config.maxBody] at h
  have hn : entries.length < 256 := by omega
  have hc := count_read (be 2 list) (entries.flatMap fun e => be 2 e.1 ++ be 1 e.2) entries.length hn
  have hl := flatMap_length (fun e : Nat × Nat => be 2 e.1 ++ be 1 e.2) 3 (by simp) entries
  simp only [be_length] at hc
  simp only [requestBody, List.length_append, be_length, hl]
  exact congrArg (fun n => some (3 + 3 * n)) hc

theorem overlaySet (fields : OverlayFields) : Statement (.overlaySet fields) := by
  intro _ k hk
  cases hk
  simp [requestLength, requestBody]

theorem overlayArm (slot : Nat) : Statement (.overlayArm slot) := by
  intro _ k hk
  cases hk
  simp [requestLength, requestBody]

theorem overlayDisarm (slot : Nat) : Statement (.overlayDisarm slot) := by
  intro _ k hk
  cases hk
  simp [requestLength, requestBody]

theorem overlayFire (slot : Nat) : Statement (.overlayFire slot) := by
  intro _ k hk
  cases hk
  simp [requestLength, requestBody]

theorem overlayRevert (slot : Nat) : Statement (.overlayRevert slot) := by
  intro _ k hk
  cases hk
  simp [requestLength, requestBody]

theorem tariffSet (fields : TariffFields) : Statement (.tariffSet fields) := by
  intro _ k hk
  cases hk
  simp [requestLength, requestBody, flatMap_length (be 2) 2 (be_length 2)]

theorem calendarSet (dayType start : Nat) (boundaries : List (Nat × Nat)) : Statement (.calendarSet dayType start boundaries) := by
  intro h k hk
  cases hk
  simp only [Instr.wellFormed, Bool.and_eq_true, decide_eq_true_eq, Config.maxBody] at h
  have hn : boundaries.length < 256 := by omega
  have hc := count_read (be 1 dayType ++ be 1 start) (boundaries.flatMap fun e => be 2 e.1 ++ be 1 e.2) boundaries.length hn
  have hl := flatMap_length (fun e : Nat × Nat => be 2 e.1 ++ be 1 e.2) 3 (by simp) boundaries
  simp only [List.length_append, be_length] at hc
  simp only [requestBody, List.length_append, be_length, hl]
  exact congrArg (fun n => some (3 + 3 * n)) hc

theorem weekSet (days : Vector Nat 7) : Statement (.weekSet days) := by
  intro _ k hk
  cases hk
  simp [requestLength, requestBody, flatMap_length (be 1) 1 (be_length 1)]

theorem timeSet (weekday ds restFlag : Nat) : Statement (.timeSet weekday ds restFlag) := by
  intro _ k hk
  cases hk
  simp [requestLength, requestBody]

theorem carrierLimits (carrier watch cap : Nat) : Statement (.carrierLimits carrier watch cap) := by
  intro _ k hk
  cases hk
  simp [requestLength, requestBody]

theorem carrierBar (carrier flag : Nat) : Statement (.carrierBar carrier flag) := by
  intro _ k hk
  cases hk
  simp [requestLength, requestBody]

theorem guardMode (mode threshold : Nat) : Statement (.guardMode mode threshold) := by
  intro _ k hk
  cases hk
  simp [requestLength, requestBody]

theorem eventConfig (mode : Nat) (mask : BitVec 16) (elevated : Nat) (entries : List (Nat × Nat × Nat)) : Statement (.eventConfig mode mask elevated entries) := by
  intro h k hk
  cases hk
  simp only [Instr.wellFormed, Bool.and_eq_true, decide_eq_true_eq, Config.maxBody] at h
  have hn : entries.length < 256 := by omega
  have hc := count_read (be 1 mode ++ be 2 mask.toNat ++ be 1 elevated)
    (entries.flatMap fun x => be 1 x.1 ++ be 1 x.2.1 ++ be 1 x.2.2) entries.length hn
  have hl := flatMap_length (fun x : Nat × Nat × Nat => be 1 x.1 ++ be 1 x.2.1 ++ be 1 x.2.2) 3 (by simp) entries
  simp only [List.length_append, be_length] at hc
  simp only [requestBody, List.length_append, be_length, hl]
  exact congrArg (fun n => some (5 + 3 * n)) hc

theorem periodClose (carrier : Nat) : Statement (.periodClose carrier) := by
  intro _ k hk
  cases hk
  simp [requestLength, requestBody]

theorem recordsFetch (count : Nat) : Statement (.recordsFetch count) := by
  intro _ k hk
  cases hk
  simp [requestLength, requestBody]

theorem query (target number member clear : Nat) : Statement (.query target number member clear) := by
  intro _ k hk
  cases hk
  simp [requestLength, requestBody]

theorem trafficRestart : Statement .trafficRestart := by
  intro _ k hk
  cases hk
  simp [requestLength, requestBody]

theorem sweepContextVisit : Statement .sweepContextVisit := by
  intro _ k hk
  cases hk

theorem sweepCompletion : Statement .sweepCompletion := by
  intro _ k hk
  cases hk

theorem guardTimerExpiry (group member : Nat) : Statement (.guardTimerExpiry group member) := by
  intro _ k hk
  cases hk

theorem seizeTimerExpiry (group member : Nat) : Statement (.seizeTimerExpiry group member) := by
  intro _ k hk
  cases hk

theorem sampleTimerExpiry (group : Nat) : Statement (.sampleTimerExpiry group) := by
  intro _ k hk
  cases hk

theorem markExpiry (index : Nat) : Statement (.markExpiry index) := by
  intro _ k hk
  cases hk

theorem midnightRollover : Statement .midnightRollover := by
  intro _ k hk
  cases hk

theorem frameComplete (wire : List Byte) : Statement (.frameComplete wire) := by
  intro _ k hk
  cases hk

theorem takeFrame : Statement .takeFrame := by
  intro _ k hk
  cases hk

theorem transmitterChoice : Statement .transmitterChoice := by
  intro _ k hk
  cases hk

theorem powerOnReset : Statement .powerOnReset := by
  intro _ k hk
  cases hk

theorem resetInputAsserted : Statement .resetInputAsserted := by
  intro _ k hk
  cases hk

theorem startUpClearEnd : Statement .startUpClearEnd := by
  intro _ k hk
  cases hk

theorem endOfDecisecond : Statement .endOfDecisecond := by
  intro _ k hk
  cases hk

theorem frameSent : Statement .frameSent := by
  intro _ k hk
  cases hk

end Sys2Proof.Laws.WireForm
end

