-- ==== Sys2Proof/Laws/Requests.lean ====
section
/-! SUPPORT. What taking and answering a request can do (R46, R186, R188), and what a selection, the rating of legs and the
other shared operations leave alone. -/

namespace Sys2Proof.Machine

/-- A request taken outside a sweep: its block's act, then its reply in its reserved place. -/
theorem serve_taken {s : State} {c : Instr} {h : Handed} (ht : Taken s c h) (code : Byte) (b : Bool)
    (act : Count → State → Answer × State) :
    s.serve c code b act =
      (act h.arrival (s.withHanded h)).2.place code h.tag (act h.arrival (s.withHanded h)).1 := by
  unfold State.serve
  rw [ht.1]
  simp [ht.2]

/-- A request refused during a sweep changes nothing but its reply (R46). -/
theorem serve_restarting {s : State} {c : Instr} {h : Handed} (ht : s.takes? c = some h) (hs : s.sweeping = true) (code : Byte)
    (act : Count → State → Answer × State) : s.serve c code false act = s.place code h.tag (.denied .restarting) := by
  unfold State.serve
  rw [ht]
  simp [hs]

/-- A request that is not taken leaves the state as it is (log 2). -/
theorem serve_untaken {s : State} {c : Instr} (ht : s.takes? c = none) (code : Byte) (b : Bool)
    (act : Count → State → Answer × State) : s.serve c code b act = s := by
  unfold State.serve
  rw [ht]

section Reads
variable (s : State) (h : Handed)

@[simp] theorem withHanded_group? (g : Nat) : (s.withHanded h).group? g = s.group? g := rfl
@[simp] theorem withHanded_circuit? (g m : Nat) : (s.withHanded h).circuit? g m = s.circuit? g m := rfl
@[simp] theorem withHanded_context? (n : Nat) : (s.withHanded h).context? n = s.context? n := rfl
@[simp] theorem withHanded_dest? (i : Nat) : (s.withHanded h).dest? i = s.dest? i := rfl
@[simp] theorem withHanded_guards (c : Nat) : (s.withHanded h).guards c = s.guards c := rfl
@[simp] theorem withHanded_recordBarred (c : Nat) : (s.withHanded h).recordBarred c = s.recordBarred c := rfl
@[simp] theorem withHanded_standing (c : Nat) : (s.withHanded h).standing c = s.standing c := rfl
@[simp] theorem withHanded_list (l : Nat) : (s.withHanded h).list l = s.list l := rfl
@[simp] theorem withHanded_takeContext? : (s.withHanded h).takeContext? = s.takeContext? := rfl
@[simp] theorem withHanded_sweeping : (s.withHanded h).sweeping = s.sweeping := rfl

@[simp] theorem place_group? (k : Byte) (tag : BitVec 16) (a : Answer) (g : Nat) :
    (s.place k tag a).group? g = s.group? g := rfl
@[simp] theorem place_circuit? (k : Byte) (tag : BitVec 16) (a : Answer) (g m : Nat) :
    (s.place k tag a).circuit? g m = s.circuit? g m := rfl
@[simp] theorem place_context? (k : Byte) (tag : BitVec 16) (a : Answer) (n : Nat) :
    (s.place k tag a).context? n = s.context? n := rfl
@[simp] theorem place_dest? (k : Byte) (tag : BitVec 16) (a : Answer) (i : Nat) :
    (s.place k tag a).dest? i = s.dest? i := rfl

end Reads

/-! ### What calls never touch -/

/-- What no call request, timer or sweep step touches: the link but for replies, clock, tariffs, lists, the configuration of
events, and the command queue. -/
def CallOnly (s t : State) : Prop :=
  t.lnk = s.lnk ∧ t.clk = s.clk ∧ t.rte = s.rte ∧ t.rse.lists = s.rse.lists ∧ t.rse.sweep = s.rse.sweep ∧
  t.enu.kinds = s.enu.kinds ∧ t.enu.elevated = s.enu.elevated ∧ t.pending = s.pending

theorem CallOnly.refl (s : State) : CallOnly s s := ⟨rfl, rfl, rfl, rfl, rfl, rfl, rfl, rfl⟩

theorem CallOnly.trans {s t u : State} (h : CallOnly s t) (h' : CallOnly t u) : CallOnly s u := by
  obtain ⟨a, b, c, d, e, f, g, i⟩ := h
  obtain ⟨a', b', c', d', e', f', g', i'⟩ := h'
  exact ⟨a'.trans a, b'.trans b, c'.trans c, d'.trans d, e'.trans e, f'.trans f, g'.trans g, i'.trans i⟩

theorem GroupOnly.callOnly {g : Nat} {s t : State} (h : GroupOnly g s t) : CallOnly s t := by
  obtain ⟨⟨a1, a2, a3, _, a5⟩, ⟨_, b2, _, b4⟩, ⟨c1, c2⟩, _⟩ := h
  exact ⟨a1, a2, a3, b2, b4, c1, c2, a5⟩

theorem raise_callOnly (s : State) (e : Event) : CallOnly s (s.raise e) := (GroupOnly.raise 0 s e).callOnly

theorem changeContext_callOnly (s : State) (n : Nat) (f : Context → Context) : CallOnly s (s.changeContext n f) := by
  refine ⟨?_, ?_, ?_, ?_, ?_, ?_, ?_, ?_⟩ <;> simp

theorem settleGuard_callOnly (s : State) (b : Bool) : CallOnly s (s.settleGuard b) := by
  refine ⟨?_, ?_, ?_, ?_, ?_, ?_, ?_, ?_⟩ <;> simp

theorem admit_callOnly (s : State) (b : Bool) : CallOnly s (s.admitLeg b) := by
  refine ⟨?_, ?_, ?_, ?_, ?_, ?_, ?_, ?_⟩ <;> simp

/-- What a hunt can do (R9): the group's record changes, and nothing else. -/
theorem hunt_groupOnly (g : Nat) (r : Group) (n : Nat) (tried : List (Nat × Nat)) (s : State) :
    GroupOnly g s (s.hunt g r n tried).2 := by
  unfold State.hunt
  dsimp only
  split <;> exact GroupOnly.setGroup g s _

/-- A hunt that takes a member takes an eligible one, the first in the hunt's order (R9). -/
theorem hunt_takes {g : Nat} {r : Group} {n m : Nat} {tried : List (Nat × Nat)} {s : State}
    (h : (s.hunt g r n tried).1 = some m) : r.huntSequence.find? (r.eligible g tried) = some m := by
  unfold State.hunt at h
  dsimp only at h
  split at h
  · rename_i k hk; rw [hk, ← h]
  · cases h

theorem grant_callOnly (n idx : Nat) (e : RouteEntry) (r : Group) (m : Nat) (s : State) :
    CallOnly s (s.grant n idx e r m) := by
  unfold State.grant
  exact (admit_callOnly s _).trans (changeContext_callOnly _ _ _)

theorem overflow_callOnly (n g : Nat) (r : Group) (s : State) : CallOnly s (s.overflow n g r) := by
  unfold State.overflow
  exact ((changeContext_callOnly s _ _).trans (GroupOnly.countTally g _ _).callOnly).trans (setScore_groupOnly g _ _).callOnly

/-- What the examination of an entry leaves alone (R58 to R65). -/
theorem examine_callOnly (n idx : Nat) (p : Priority) (tried : List (Nat × Nat)) (e : RouteEntry) (s : State) :
    CallOnly s (s.examine n idx p tried e).2 := by
  unfold State.examine
  split
  · exact CallOnly.refl s
  · rename_i r _
    split_ifs
    · exact CallOnly.refl s
    · exact CallOnly.refl s
    · exact CallOnly.refl s
    · exact changeContext_callOnly s _ _
    · have hh := (hunt_groupOnly e.group r n tried s).callOnly
      split <;> rename_i hu <;> rw [hu] at hh
      · exact hh.trans (grant_callOnly _ _ _ _ _ _)
      · exact hh.trans (overflow_callOnly _ _ _ _)

/-- What a walk leaves alone (R58). -/
theorem walk_callOnly (n : Nat) (p : Priority) (tried : List (Nat × Nat)) (idx : Nat) (es : List RouteEntry) (k : Skips)
    (s : State) : CallOnly s (s.walk n p tried idx es k).2 := by
  induction es generalizing idx k s with
  | nil => exact CallOnly.refl s
  | cons e t ih =>
    have hx := examine_callOnly n idx p tried e s
    unfold State.walk
    split <;> rename_i hu <;> rw [hu] at hx
    · exact hx
    · exact hx.trans (ih _ _ _)

theorem farGate_callOnly (i : Nat) (d : Dest) (p : Priority) (s : State) : CallOnly s (s.farGate i d p).2 :=
  ⟨rfl, rfl, rfl, rfl, rfl, rfl, rfl, rfl⟩

/-- What a first selection leaves alone (R56). -/
theorem firstSelection_callOnly (n : Nat) (c : Context) (g : Progress) (called : List Nat) (s : State) :
    CallOnly s (s.firstSelection n c g called).2 := by
  unfold State.firstSelection
  split
  · exact CallOnly.refl s
  · dsimp only
    split_ifs
    · exact (changeContext_callOnly s _ _).trans (farGate_callOnly _ _ _ _)
    · exact (((changeContext_callOnly s _ _).trans (farGate_callOnly _ _ _ _)).trans (changeContext_callOnly _ _ _)).trans
        (walk_callOnly _ _ _ _ _ _ _)

/-- What a crankback leaves alone (R57). -/
theorem crankback_callOnly (n : Nat) (c : Context) (s : State) : CallOnly s (s.crankback n c).2 := by
  unfold State.crankback
  split
  · split
    · exact CallOnly.refl s
    · dsimp only
      split_ifs
      · exact farGate_callOnly _ _ _ _
      · exact (farGate_callOnly _ _ _ _).trans (walk_callOnly _ _ _ _ _ _ _)
  · exact CallOnly.refl s

theorem spend_callOnly (n : Nat) (o : Selection) (s : State) : CallOnly s (s.spend n o) := by
  unfold State.spend
  split
  · exact CallOnly.refl s
  · exact changeContext_callOnly s _ _

/-- What a CONTINUE leaves alone (R39). -/
theorem continueFrom_callOnly (n : Nat) (c : Context) (s : State) : CallOnly s (s.continueFrom n c).2 := by
  unfold State.continueFrom
  dsimp only
  split
  · exact (crankback_callOnly n c s).trans (spend_callOnly _ _ _)
  · exact spend_callOnly _ _ _

/-! ### Rating -/

/-- What rating leaves alone: everything outside SAC, the notice queue and the slots. -/
def SacOnly (s t : State) : Prop :=
  CallOnly s t ∧ t.ctb = s.ctb ∧ t.rse.dests = s.rse.dests ∧ t.rse.contexts = s.rse.contexts ∧
  t.sac.period = s.sac.period ∧ t.sac.mode = s.sac.mode ∧ t.sac.threshold = s.sac.threshold

theorem SacOnly.refl (s : State) : SacOnly s s := ⟨CallOnly.refl s, rfl, rfl, rfl, rfl, rfl, rfl⟩

theorem SacOnly.trans {s t u : State} (h : SacOnly s t) (h' : SacOnly t u) : SacOnly s u := by
  obtain ⟨a, b, c, d, e, f, g⟩ := h
  obtain ⟨a', b', c', d', e', f', g'⟩ := h'
  exact ⟨a.trans a', b'.trans b, c'.trans c, d'.trans d, e'.trans e, f'.trans f, g'.trans g⟩

theorem raise_sacOnly (s : State) (e : Event) : SacOnly s (s.raise e) := by
  refine ⟨raise_callOnly s e, ?_, ?_, ?_, ?_, ?_, ?_⟩ <;> simp

theorem changeCarrier_sacOnly (s : State) (i : Fin 63) (f : Carrier → Carrier) : SacOnly s (s.changeCarrier i f) :=
  ⟨⟨rfl, rfl, rfl, rfl, rfl, rfl, rfl, rfl⟩, rfl, rfl, rfl, rfl, rfl, rfl⟩

theorem changeAccount_sacOnly (s : State) (i : Fin 63) (d : LegDir) (f : Account → Account) :
    SacOnly s (s.changeAccount i d f) := changeCarrier_sacOnly s i _

theorem settleGuard_sacOnly (s : State) (b : Bool) : SacOnly s (s.settleGuard b) := by
  refine ⟨settleGuard_callOnly s b, ?_, ?_, ?_, ?_, ?_, ?_⟩ <;> simp

/-- What the latch test can do (R165): the latch moves, with RECORD_HIGH. -/
theorem testLatch_sacOnly (s : State) : SacOnly s s.testLatch := by
  unfold State.testLatch
  dsimp only
  split
  · exact SacOnly.refl s
  · exact SacOnly.trans (t := { s with sac := { s.sac with latch := _ } })
      ⟨⟨rfl, rfl, rfl, rfl, rfl, rfl, rfl, rfl⟩, rfl, rfl, rfl, rfl, rfl, rfl⟩ (raise_sacOnly _ _)

/-- The latch after its test (R165). -/
theorem testLatch_latch (s : State) :
    s.testLatch.sac.latch = latchTest s.sac.latch s.sac.records.length s.sac.threshold := by
  unfold State.testLatch
  dsimp only
  split
  · rename_i h; exact h.symm
  · simp

/-- What the standing's re-evaluation can do (R146). -/
theorem reevaluate_sacOnly (s : State) (i : Fin 63) : SacOnly s (s.reevaluate i) := by
  unfold State.reevaluate
  dsimp only
  split
  · exact SacOnly.refl s
  · exact SacOnly.trans (t := s.setCarrier i _)
      ⟨⟨rfl, rfl, rfl, rfl, rfl, rfl, rfl, rfl⟩, rfl, rfl, rfl, rfl, rfl, rfl⟩ (raise_sacOnly _ _)

/-- The carrier after its standing is re-evaluated (R145, R146). -/
theorem reevaluate_carrier (s : State) (i : Fin 63) :
    (s.reevaluate i).sac.carriers[i] = { s.sac.carriers[i] with standing := s.sac.carriers[i].derived } := by
  unfold State.reevaluate
  dsimp only
  by_cases h : s.sac.carriers[i].derived = s.sac.carriers[i].standing
  · rw [if_pos h]; simp only [h]
  · rw [if_neg h]; simp

theorem account_sacOnly (s : State) (i : Fin 63) (d : LegDir) (c b : Nat) : SacOnly s (s.account i d c b) := by
  unfold State.account
  dsimp only
  split
  · exact (changeAccount_sacOnly s i d _).trans (raise_sacOnly _ _)
  · exact changeAccount_sacOnly s i d _

theorem append_sacOnly (s : State) (r : ChargeRecord) : SacOnly s (s.append r) := by
  unfold State.append
  exact SacOnly.trans (t := { s with sac := { s.sac with records := s.sac.records ++ [r] } })
    ⟨⟨rfl, rfl, rfl, rfl, rfl, rfl, rfl, rfl⟩, rfl, rfl, rfl, rfl, rfl, rfl⟩ (testLatch_sacOnly _)

theorem placeRecord_sacOnly (s : State) (i : Fin 63) (g : Bool) (r : ChargeRecord) :
    SacOnly s (s.placeRecord i g r).2 := by
  unfold State.placeRecord
  split_ifs
  · exact (settleGuard_sacOnly s true).trans (append_sacOnly _ _)
  · exact append_sacOnly s r
  · exact (changeAccount_sacOnly s i _ _).trans (raise_sacOnly _ _)

/-- What the rating of a leg can do (R121, R135). -/
theorem rateLeg_sacOnly (s : State) (q : BitVec 32) (a r : Count) (cut : Bool) (leg : Leg) :
    SacOnly s (s.rateLeg q a r cut leg).2 := by
  unfold State.rateLeg
  dsimp only
  have h1 : ∀ s : State, SacOnly s s.nextSequence :=
    fun s => ⟨⟨rfl, rfl, rfl, rfl, rfl, rfl, rfl, rfl⟩, rfl, rfl, rfl, rfl, rfl, rfl⟩
  split
  · exact (((account_sacOnly s _ _ _ _).trans (h1 _)).trans (placeRecord_sacOnly _ _ _ _)).trans (reevaluate_sacOnly _ _)
  · exact ((account_sacOnly s _ _ _ _).trans (h1 _)).trans (placeRecord_sacOnly _ _ _ _)

theorem endUnanswered_sacOnly (s : State) (leg : Leg) : SacOnly s (s.endUnanswered leg).2 :=
  (changeAccount_sacOnly s _ _ _).trans (settleGuard_sacOnly _ _)

theorem handLegs_sacOnly (f : Leg → State → LegReply × State) (hf : ∀ l s, SacOnly s (f l s).2) (ls : List Leg) (s : State) :
    SacOnly s (handLegs f ls s).2 := by
  induction ls generalizing s with
  | nil => exact SacOnly.refl s
  | cons l t ih => exact (hf l s).trans (ih _)

/-- What the end of a context's legs can do (R43, R45, R47). -/
theorem endLegs_sacOnly (s : State) (c : Context) (r : Count) (cut : Bool) : SacOnly s (s.endLegs c r cut).2 := by
  unfold State.endLegs
  split
  · exact handLegs_sacOnly _ (fun l s => rateLeg_sacOnly s _ _ _ _ l) _ _
  · exact handLegs_sacOnly _ (fun l s => endUnanswered_sacOnly s l) _ _

end Sys2Proof.Machine
end

