-- ==== Sys2Proof/Tests/Slice0.lean ====
section
/-! SUPPORT. Tests. Every expected value comes from spec/: a worked case or sequence, a table, or a hand count named in the
docstring. Then the witnesses: for each statement with hypotheses, states and operands that meet them. -/

namespace Sys2Proof.Tests

set_option Elab.async false

open Sys2Proof.Machine

/-! ### Well-formedness: one ill-formed term for each check -/

/-- A digit field of the right run length. -/
def digits24 (ds : List Nat) : DigitField := ⟨ds.length, ds ++ List.replicate (24 - ds.length) 0⟩
/-- The same for a destination's digits. -/
def digits16 (ds : List Nat) : DigitField := ⟨ds.length, ds ++ List.replicate (16 - ds.length) 0⟩

/-- A GROUP_DEFINE of group 40 of the glare sequence (1.6), with 2 members. -/
def define40 : GroupFields := ⟨40, 2048, 2, 2, 0, 0, 0, 300, 700, 0, 1, 50, 10, 120⟩
/-- An OVERLAY_SET that watches group 120. -/
def watch120 : OverlayFields := ⟨1, 400, 410, 1, 120, 3, 0, 0, 0⟩
/-- A TARIFF_SET of carrier 12 OUT. -/
def tariff12 : TariffFields := ⟨12, 0, Vector.replicate 32 480, 150, 30, 6, Vector.replicate 5 100, 50000⟩

/-- Call requests, each ill formed in one check alone. -/
def illCalls : List Instr :=
  [.seizeIn 65536 0 0 0, .seizeIn 0 65536 0 0, .seizeIn 0 0 0 256, .route 65536 1 (digits24 [1]), .route 0 256 (digits24 [1]),
   .route 0 1 (digits16 [1]), .route 0 1 ⟨256, List.replicate 24 0⟩, .route 0 1 ⟨1, List.replicate 24 256⟩, .continueCall 65536,
   .confirm 65536 0 0, .confirm 0 65536 0, .confirm 0 0 65536, .failCall 65536 0 0 0 0, .failCall 0 65536 0 0 0,
   .failCall 0 0 65536 0 0, .failCall 0 0 0 256 0, .failCall 0 0 0 0 256, .answer 65536, .release 65536]
/-- Requests on groups, circuits, destinations, lists and slots, likewise. -/
def illTables : List Instr :=
  [.farMark (digits24 [1]) 0 0, .farMark (digits16 [1]) 256 0, .farMark (digits16 [1]) 0 65536, .groupBlock 65536,
   .groupUnblock 65536, .circuitBlock 65536 0, .circuitBlock 0 65536, .circuitUnblock 65536 0, .circuitUnblock 0 65536,
   .destSet (digits24 [1]) 0, .destSet (digits16 [1]) 65536, .destClear (digits24 [1]), .listSet 65536 [], .listSet 0 [(65536, 0)],
   .listSet 0 [(0, 256)], .listSet 0 (List.replicate 160 (0, 0)), .overlayArm 256, .overlayDisarm 256, .overlayFire 256,
   .overlayRevert 256]
/-- GROUP_DEFINE, field by field. -/
def illGroups : List Instr :=
  [.groupDefine { define40 with group := 65536 }, .groupDefine { define40 with first := 65536 },
   .groupDefine { define40 with size := 65536 }, .groupDefine { define40 with direction := 256 },
   .groupDefine { define40 with carrier := 256 }, .groupDefine { define40 with inboundBand := 256 },
   .groupDefine { define40 with huntOrder := 256 }, .groupDefine { define40 with localKey := 65536 },
   .groupDefine { define40 with farKey := 65536 }, .groupDefine { define40 with reservation := 65536 },
   .groupDefine { define40 with loadThreshold := 65536 }, .groupDefine { define40 with sampleInterval := 65536 },
   .groupDefine { define40 with guardTime := 256 }, .groupDefine { define40 with seizeTimeout := 65536 }]
/-- OVERLAY_SET, field by field. -/
def illSlots : List Instr :=
  [.overlaySet { watch120 with slot := 256 }, .overlaySet { watch120 with base := 65536 },
   .overlaySet { watch120 with substitute := 65536 }, .overlaySet { watch120 with trigger := 256 },
   .overlaySet { watch120 with group := 65536 }, .overlaySet { watch120 with level := 256 },
   .overlaySet { watch120 with carrier := 256 }, .overlaySet { watch120 with standing := 256 },
   .overlaySet { watch120 with revert := 256 }]
/-- TARIFF_SET, field by field. -/
def illTariffs : List Instr :=
  [.tariffSet { tariff12 with carrier := 256 }, .tariffSet { tariff12 with direction := 256 },
   .tariffSet { tariff12 with rates := Vector.replicate 32 65536 }, .tariffSet { tariff12 with fee := 65536 },
   .tariffSet { tariff12 with minimum := 65536 }, .tariffSet { tariff12 with increment := 256 },
   .tariffSet { tariff12 with factors := Vector.replicate 5 65536 }, .tariffSet { tariff12 with cap := 4294967296 }]
/-- Calendar, clock, settlement and guard requests. -/
def illCalendars : List Instr :=
  [.calendarSet 256 0 [], .calendarSet 0 256 [], .calendarSet 0 0 [(65536, 0)], .calendarSet 0 0 [(0, 256)],
   .calendarSet 0 0 (List.replicate 160 (0, 0)), .weekSet (Vector.replicate 7 256), .timeSet 256 0 0, .timeSet 0 16777216 0,
   .timeSet 0 0 256, .carrierLimits 256 0 0, .carrierLimits 0 18446744073709551616 0, .carrierLimits 0 0 18446744073709551616,
   .carrierBar 256 0, .carrierBar 0 256, .guardMode 256 0, .guardMode 0 65536]
/-- Events, records, queries, and the steps of the part itself. -/
def illOthers : List Instr :=
  [.eventConfig 256 0 0 [], .eventConfig 0 0 256 [], .eventConfig 0 0 0 [(256, 0, 0)], .eventConfig 0 0 0 [(0, 256, 0)],
   .eventConfig 0 0 0 [(0, 0, 256)], .eventConfig 0 0 0 (List.replicate 159 (0, 0, 0)), .periodClose 256, .recordsFetch 256,
   .query 256 0 0 0, .query 0 65536 0 0, .query 0 0 65536 0, .query 0 0 0 256, .guardTimerExpiry 256 0, .guardTimerExpiry 0 1024,
   .seizeTimerExpiry 256 0, .seizeTimerExpiry 0 1024, .sampleTimerExpiry 256, .markExpiry 4096, .frameComplete [0, 0xA5]]
/-- One term for each check of `Instr.wellFormed`. -/
def illFormed : List Instr := illCalls ++ illTables ++ illGroups ++ illSlots ++ illTariffs ++ illCalendars ++ illOthers

theorem test_ill_formed_terms_are_refused : illFormed.all (fun i => !i.wellFormed) = true := by decide +kernel

theorem test_well_formed_terms_are_admitted :
    [Instr.groupDefine define40, .overlaySet watch120, .tariffSet tariff12, .route 4095 15 (digits24 [4, 3, 1]),
     .listSet 0 (List.replicate 159 (65535, 255)), .frameComplete [0xA5, 1]].all Instr.wellFormed = true := by decide +kernel

/-! ### The link (chapter 11) and the messages (chapter 12) -/

/-- R182: the bytes 0x31 to 0x39 give the check 0x29B1. -/
theorem test_check_of_the_nine_digits : crc [0x31, 0x32, 0x33, 0x34, 0x35, 0x36, 0x37, 0x38, 0x39] = 0x29B1 := by decide +kernel

/-- 11.1's example of escaping. -/
theorem test_escaping :
    escapeBytes [0x12, 0xA5, 0x30] = [0x12, 0xA6, 0x85, 0x30] ∧ escapeBytes [0xA6, 0xA6] = [0xA6, 0x86, 0xA6, 0x86] ∧
    escapeBytes [0x85] = [0x85] := by decide +kernel

/-- Bodies written out from R196, one for each shape: fields in order, more significant byte first. -/
theorem test_bodies_spell_their_requests :
    readRequest 0x01 [0, 40, 0, 20, 0, 1, 0x59, 0x5A, 1] = some (.seizeIn 40 20 88410 1) ∧
    readRequest 0x05 [0, 17, 0, 40, 0, 20, 2, 1] = some (.failCall 17 40 20 2 1) ∧
    readRequest 0x1A [1, 0x36, 2, 0, 40, 0, 0, 52, 3] = some (.listSet 310 [(40, 0), (52, 3)]) ∧
    readRequest 0x2B [2, 0x0C, 0x1D, 0x57, 0] = some (.timeSet 2 793943 0) ∧
    readRequest 0x38 [1, 0x20, 0x02, 5, 1, 1, 3, 2] = some (.eventConfig 1 0x2002 5 [(1, 3, 2)]) := by decide +kernel

/-- The bodies of R196 with digit fields and fixed runs. -/
theorem test_long_bodies_spell_their_requests :
    readRequest 0x18 ([4, 0, 4, 3, 1] ++ List.replicate 12 0 ++ [0, 77]) = some (.destSet (digits16 [0, 4, 3, 1]) 77) ∧
    readRequest 0x10 [0, 40, 8, 0, 0, 2, 2, 0, 0, 0, 1, 44, 2, 188, 0, 0, 0, 1, 0, 50, 10, 0, 120] = some (.groupDefine define40) ∧
    readRequest 0x20 [1, 1, 0x90, 1, 0x9A, 1, 0, 120, 3, 0, 0, 0] = some (.overlaySet watch120) := by decide +kernel

/-- What a command leaves. -/
def after (c : Instr) (s : State) : State := match exec c s with | .next t => t | .fault _ => s | .refused _ => s

/-- The running part after power-on, with nothing configured. -/
def idle : State := { State.reset with lnk := Lnk.powerOn .running }

/-- R181 to R184: an ANSWER of context 230, framed, is queued with its tag and the count. -/
theorem test_frame_is_queued :
    after (.frameComplete (0xA5 :: escapeBytes (frameContent 0x06 0xA5A6 [0, 230]))) idle =
      { idle with lnk := { idle.lnk with rx := ⟨true, [], false, false⟩, inbound := [⟨0x06, 0xA5A6, [0, 230], 0⟩] } } := by
  decide +kernel

/-- R187: an unknown kind below 0x80 is answered with its code plus 0x80, another with 0xFF; a wrong length with BAD_LENGTH. -/
theorem test_frames_of_wrong_kind_or_length :
    after .takeFrame { idle with lnk := { idle.lnk with inbound := [⟨0x50, 7, [], 0⟩] } } =
      { idle with lnk := { idle.lnk with replies := [⟨0xD0, 7, .unknownKind 0x50⟩] } } ∧
    after .takeFrame { idle with lnk := { idle.lnk with inbound := [⟨0xC1, 7, [], 0⟩] } } =
      { idle with lnk := { idle.lnk with replies := [⟨0xFF, 7, .unknownKind 0xC1⟩] } } ∧
    after .takeFrame { idle with lnk := { idle.lnk with inbound := [⟨0x06, 7, [1], 0⟩] } } =
      { idle with lnk := { idle.lnk with replies := [⟨0x86, 7, .badLength 1⟩] } } := by decide +kernel

/-- The OUT record of 7.5 as 12.5's example gives it. -/
def exampleRecord : ChargeRecord :=
  { sequence := 70003, callRef := 88410, carrier := 12, direction := .outLeg, group := 62, member := 7, band := 3,
    answerAt := some (2, 791100), duration := 2843, billed := 288, periods := [(1, 900), (2, 1980)], level := 3, factor := 125,
    fee := 150, charge := 4380, generation := 14, period := 5, clockUnset := false, clamped := false, capped := false,
    restartCut := false }

/-- 12.5's example record, byte by byte from R202. -/
theorem test_record_bytes :
    recordBytes exampleRecord =
      [0, 1, 0x11, 0x73, 0, 1, 0x59, 0x5A, 12, 0, 0, 62, 0, 7, 3, 0, 2, 0x0C, 0x12, 0x3C, 0, 0, 0x0B, 0x1B, 0, 0, 1, 0x20, 3, 0,
       125, 0, 150, 0, 0, 0x11, 0x1C, 0, 14, 0, 5, 2, 1, 0, 0x03, 0x84, 2, 0, 0x07, 0xBC, 0, 0, 0, 0, 0, 0, 0, 0] := by decide +kernel

/-- 12.5's example notice: GROUP_LEVEL of group 120, count 3, stamp 125, MODERATE. -/
theorem test_notice_bytes :
    noticeBytes ⟨.groupLevel 120 2, 3, 125⟩ = [1, 0, 120, 0, 3, 0, 0, 0, 125, 2, 0, 0, 0, 0, 0] := by decide +kernel

/-- The kinds of 10.6, with CARRIER_STANDING elevated. -/
def enu106 : Enu :=
  let off : KindConfig := ⟨false, 0, .notice⟩
  { Enu.powerOn with
    kinds := #v[⟨true, 0, .notice⟩, ⟨true, 3, .both⟩, off, off, ⟨true, 5, .notice⟩, ⟨true, 1, .both⟩, off, off, ⟨true, 6, .notice⟩,
      off, off, off, off, ⟨true, 0, .notice⟩]
    elevated := some .carrierStanding }

/-- The queue of 10.6 after its last row. -/
def queue106 : List Notice :=
  [⟨.groupLevel 120 2, 3, 125⟩, ⟨.circuitTrouble 40 20 .timeout, 1, 104⟩, ⟨.recordLost 70001 12 .outLeg, 2, 115⟩,
   ⟨.carrierStanding 12 .watch, 1, 120⟩]

/-- 10.6: the rows at stamps 110, 115 and 125 coalesce; GLARE is disabled. -/
theorem test_coalescing :
    enterNotice 110 (.groupLevel 120 3) [⟨.groupLevel 120 2, 1, 100⟩] = [⟨.groupLevel 120 3, 2, 110⟩] ∧
    enterNotice 125 (.groupLevel 120 2) [⟨.groupLevel 120 3, 2, 110⟩, ⟨.recordLost 70001 12 .outLeg, 2, 115⟩] =
      [⟨.groupLevel 120 2, 3, 125⟩, ⟨.recordLost 70001 12 .outLeg, 2, 115⟩] ∧
    enu106.notices? .glare = false := by decide +kernel

/-- 10.6: the transmitter takes the elevated e4, then RECORD_LOST, then CIRCUIT_TROUBLE. -/
theorem test_notice_order :
    enu106.pick queue106 = some ⟨.carrierStanding 12 .watch, 1, 120⟩ ∧
    enu106.pick (queue106.take 3) = some ⟨.recordLost 70001 12 .outLeg, 2, 115⟩ ∧
    enu106.pick (queue106.take 2) = some ⟨.circuitTrouble 40 20 .timeout, 1, 104⟩ := by decide +kernel

/-- 10.6, a full queue: the drop enters NOTICE_OVERFLOW in the reserved place. -/
theorem test_full_queue :
    (enterNotice 9 (.groupLevel 200 4) ((List.range 63).map fun g => ⟨.groupDrained g, 1, 0⟩)).drop 63 =
      [⟨.noticeOverflow .groupLevel, 1, 9⟩] := by decide +kernel

/-! ### Calendar and rating (chapters 6 and 7) -/

/-- The calendar of 6.3's example. -/
def clk63 : Clk := { Clk.powerOn with count := 9000000, weekday := 3, ds := 1500, clock := .set }

/-- 6.3's example: instants across a midnight, with their weekdays. -/
theorem test_instants :
    [8999400, 8998500, 8998000, 8134000].map (fun x : Count =>
      (dayOf (clk63.instant x), dsOf (clk63.instant x), (clk63.weekdayOf (dayOf (clk63.instant x))).val)) =
      [(0, 900, 3), (0, 0, 3), (-1, 863500, 2), (-2, 863500, 1)] := by decide +kernel

/-- The schedules of 6.5's example. -/
def workDay : Schedule := ⟨2, [(420, 1), (480, 0), (1080, 1), (1320, 2)]⟩
/-- REST of the same. -/
def restDay : Schedule := ⟨3, [(600, 2), (1320, 3)]⟩
/-- The calendar of 6.5's example at weekday 5, 00:02:00.0. -/
def clk65 : Clk :=
  { Clk.powerOn with weekday := 5, ds := 1200, clock := .set, work := workDay, rest := restDay
                     week := #v[.work, .work, .work, .work, .work, .rest, .rest] }

/-- 6.5's example: a span across midnight, without and with yesterday's override, and with the clock UNSET. -/
theorem test_span_across_midnight :
    periodTimes clk65 (-3000) 420 = [0, 0, 3000, 1200] ∧
    periodTimes { clk65 with yesterday := true } (-3000) 420 = [0, 0, 0, 4200] ∧
    periodTimes { clk65 with clock := .unset } (-3000) 420 = [4200, 0, 0, 0] := by decide +kernel

/-- The calendar of 7.5 at the release. -/
def clk75 : Clk := { clk65 with weekday := 2, ds := 793943, count := 5123243 }
/-- Carrier 12's OUT entry of 7.5: r[3][0] = 300, r[3][1] = 1,200, r[3][2] = 480. -/
def out12 : Tariff :=
  { rates := ((Vector.replicate 32 0).set 12 300 |>.set 13 1200).set 14 480, fee := 150, minimum := 30, increment := 6,
    factors := #v[100, 100, 100, 125, 100], cap := 50000, generation := 14 }
/-- Carrier 7's IN entry of 7.5: r[2][1] = 400, r[2][2] = 250. -/
def in7 : Tariff :=
  { rates := (Vector.replicate 32 0).set 9 400 |>.set 10 250, fee := 0, minimum := 60, increment := 60,
    factors := Vector.replicate 5 100, cap := 0, generation := 6 }
/-- The OUT leg of 7.5. -/
def outLeg75 : Leg := ⟨.outLeg, 11, 62, 7, 3, 3, true⟩

/-- 7.5: the OUT leg's record is 12.5's example. -/
theorem test_rating_out_leg :
    rateRecord clk75 out12 outLeg75 88410 5120400 5123243 false 70003 5 = exampleRecord := by decide +kernel

/-- 7.5: the IN leg is billed 300 s and charged 1,475 sp. -/
theorem test_rating_in_leg :
    let r := rateRecord clk75 in7 ⟨.inLeg, 6, 14, 5, 2, 0, true⟩ 88410 5120400 5123243 false 70002 5
    r.billed = 300 ∧ r.charge = 1475 ∧ r.periods = [(1, 900), (2, 2100)] ∧ r.level = 0 ∧ r.factor = 100 := by decide +kernel

/-- 7.5's variations: clock UNSET 1,950 sp; set back 3,000 ds 7,350 sp; answered and released in one decisecond 900 sp. -/
theorem test_rating_variations :
    (rateRecord { clk75 with clock := .unset } out12 outLeg75 0 5120400 5123243 false 0 5).charge = 1950 ∧
    (rateRecord { clk75 with ds := 790943 } out12 outLeg75 0 5120400 5123243 false 0 5).charge = 7350 ∧
    (rateRecord { clk75 with ds := 791100, count := 5120400 } out12 outLeg75 0 5120400 5120400 false 0 5).charge = 900 := by decide +kernel

/-- 7.6: a call of 30 hours is clamped to its last 24 and capped at 2,500,000 sp. -/
theorem test_rating_past_24_hours :
    let c := { clk65 with weekday := 1, ds := 234127, yesterday := true, count := 1080000 }
    let t : Tariff := { rates := (((Vector.replicate 32 0).set 20 300 |>.set 21 700).set 22 900).set 23 600, fee := 500,
                        minimum := 60, increment := 60, factors := #v[100, 100, 100, 100, 250], cap := 2500000, generation := 3 }
    let r := rateRecord c t ⟨.outLeg, 19, 0, 0, 5, 4, false⟩ 0 0 1080000 false 0 0
    r.billed = 86400 ∧ r.clamped = true ∧ r.answerAt = some (0, 18127) ∧ r.periods = [(2, 666127), (3, 197873)] ∧
    r.charge = 2500000 ∧ r.capped = true := by decide +kernel

/-! ### Selection and supervision (chapters 1, 3, 4, 8) -/

/-- 4.2: the reserves at LIGHT and at SEVERE with r = 3, NORMAL then DEFERRABLE, first choice then alternate. -/
theorem test_reserves :
    [(Priority.normal, true), (.normal, false), (.deferrable, true), (.deferrable, false), (.essential, false)].map
      (fun x => (reserveFor 1 x.1 x.2 3, reserveFor 4 x.1 x.2 3)) =
      [(some 0, some 3), (some 3, none), (some 0, none), (some 3, none), (some 0, some 0)] := by decide +kernel

/-- 4.2: idle 3 with reserve 3 is skipped, idle 4 passes. -/
theorem test_reserve_is_exceeded : reservePasses (some 3) 3 = false ∧ reservePasses (some 3) 4 = true := by decide +kernel

/-- A group in service with the members given; guard time 10, seize timeout 120, load threshold 2, sample interval 50. -/
def group (first : Nat) (d : Direction) (carrier localKey farKey : Nat) (ms : List Circuit) : Group :=
  { first, direction := d, carrier, inboundBand := 2, huntOrder := .ascending, localKey, farKey, reservation := 0,
    loadThreshold := 2, sampleInterval := 50, guardTime := 10, seizeTimeout := 120, state := .inService, rotate := 0,
    tallies := Tallies.zero, members := ms, score := 0, sampleTimer := some 50 }

/-- A circuit in an IDLE state with nothing set. -/
def free : Circuit := ⟨.idle, false, false, none, none, none⟩

/-- A call on group 8 as it stands after its SEIZE_IN. -/
def incoming : Context :=
  { state := .inOnly, callRef := 9, priority := .normal, inLeg := ⟨8, 0, 0, 2, false⟩, outLeg := none, destination := none,
    resolved := none, progress := none, bypass := 0, answerStamp := none, haltCause := none }

/-- The same call PENDING on 40/0, as after event 1 of the glare sequence. -/
def pendingCall : Context :=
  { incoming with state := .pending, outLeg := some ⟨40, 0, 0, 1, 0, false⟩, destination := some 9, resolved := some 310,
                  progress := some ⟨3, 1, [(40, 0)], 0⟩ }

/-- The routing tables of the sequences: prefix "0431" at index 9, list 310 on groups 40 and 52. -/
def rse310 (cs : Table Context) : Rse :=
  { dests := [(9, ⟨[0, 4, 3, 1], 310, 0, none, 0⟩)], lists := [(310, [⟨40, 1⟩, ⟨52, 3⟩])], slots := Vector.replicate 16 Slot.powerOn,
    contexts := cs, sweep := none }

/-- The call's in-circuit on group 8. -/
def held (n : Nat) : Circuit := ⟨.inBusy, false, false, some n, none, none⟩
/-- A circuit seized outward for a context. -/
def seized (n : Nat) : Circuit := ⟨.outPending, false, false, some n, none, some 120⟩

/-- The part with one call on context 17, and group 40's members. -/
def withCall (x : Context) (ms : List Circuit) : State :=
  { idle with
    ctb := ⟨[(8, group 0 .incoming 0 0 0 [held 17]), (40, group 2048 .both 0 300 700 ms), (52, group 3000 .outgoing 12 0 0 [free])]⟩
    rse := rse310 [(17, x)] }

/-- Before event 1 of the glare sequence: context 17 IN_ONLY, 40/0 and 52/0 IDLE. -/
def beforeRoute : State := withCall incoming [free]

/-- After it: 40/0 OUT_PENDING for context 17. -/
def afterRoute : State := withCall pendingCall [seized 17]

/-- Event 1 of the glare sequence: granted on its first choice; the circuit OUT_PENDING, its timer at 120. -/
theorem test_route_grants :
    let t := after (.route 17 3 (digits24 [0, 4, 3, 1, 9])) beforeRoute
    t.lnk.replies = [⟨0x82, 0, .selection none (.granted 40 0 0)⟩] ∧ t.circuit? 40 0 = some (seized 17) ∧
    t.context? 17 = some pendingCall := by decide +kernel

/-- Event 2: this end yields; context 17's call is granted on the next entry with 2 of its 3 attempts used. -/
theorem test_glare_yields :
    let t := after (.seizeIn 40 0 5 1) afterRoute
    t.lnk.replies = [⟨0x81, 0, .accepted (.seized 0 (some (17, .granted 52 0 1)))⟩] ∧ t.circuit? 40 0 = some (held 0) ∧
    (t.context? 17).bind (·.progress) = some ⟨3, 2, [(40, 0), (52, 0)], 1⟩ ∧
    ((t.group? 40).map (·.tallies)) = some ⟨1, 1, 0, 1, 0, 0⟩ := by decide +kernel

/-- Events 3 and 4: a report for the circuit lost is STALE; after CONFIRM the circuit is OUT_BUSY with no timer. -/
theorem test_confirm :
    after (.confirm 17 52 0) afterRoute =
      { afterRoute with lnk := { afterRoute.lnk with replies := [⟨0x84, 0, .denied .stale⟩] } } ∧
    (after (.confirm 17 40 0) afterRoute).circuit? 40 0 = some ⟨.outBusy, false, false, some 17, none, none⟩ := by decide +kernel

/-- The seize timeout of the glare sequence: 40/0 to GUARD for 10 ds, context 17 HALTED with TIMEOUT, resuming at entry 1. -/
theorem test_seize_timeout :
    let t := after (.seizeTimerExpiry 40 0) { afterRoute with
      ctb := ⟨[(40, group 2048 .both 0 300 700 [{ seized 17 with seizeTimer := some 0 }])]⟩ }
    t.circuit? 40 0 = some ⟨.guard, false, false, none, some 10, none⟩ ∧
    (t.context? 17).map (fun c => (c.state, c.haltCause, c.progress)) =
      some (.halted, some .timeout, some ⟨3, 1, [(40, 0)], 1⟩) := by decide +kernel

/-- R192: at the end of the clear the transmitter is sending STARTUP, before any request can be taken. -/
theorem test_startup_is_chosen_at_once :
    let t := after .startUpClearEnd State.reset
    t.lnk.sending = some ⟨0x7F, 0, [0, 0xFF, 0xFF, 0, 1, 0, 0, 0, 0, 0, 0, 0, 0, 0, 0]⟩ ∧ t.enu.notices = [] ∧
    t.lnk.phase = .running := by decide +kernel

/-- R188: a request taken during the sweep is answered RESTARTING, and its reply stands ahead of TRAFFIC_RESTART's. -/
theorem test_completion_waits_for_the_request_taken :
    let s := { idle with
      rse := { idle.rse with sweep := some ⟨7, 5, 4096, 1, 2⟩ }
      lnk := { idle.lnk with handed := some ⟨9, 0, .answer 1⟩ } }
    after .sweepCompletion s = s ∧
    (after .sweepCompletion (after (.answer 1) (after .sweepCompletion s))).lnk.replies =
      [⟨0x86, 9, .denied .restarting⟩, ⟨0xC9, 7, .accepted (.restarted 1 2)⟩] := by decide +kernel

/-- 4.1: sampled at its load threshold a group's score moves up, below it down (the threshold here is 2). -/
theorem test_sample :
    Group.sampled { group 0 .outgoing 0 0 0 [held 1, held 2] with score := 3 } = 4 ∧
    Group.sampled { group 0 .outgoing 0 0 0 [held 1, free] with score := 5 } = 4 ∧ levelOf 3 = 1 ∧ levelOf 4 = 2 := by decide +kernel

/-- 4.3's gapping sequence: every fourth NORMAL call is admitted under a mark of level 2. -/
theorem test_gapping :
    [0, 1, 2, 3].map (fun g => (markAdmits 2 g .normal, nextGap 2 g .normal)) = [(true, 1), (false, 2), (false, 3), (false, 0)] ∧
    markAdmits 2 1 .deferrable = false ∧ nextGap 2 1 .deferrable = 1 ∧ markAdmits 2 2 .essential = true ∧
    markAdmits 1 0 .deferrable = false := by decide +kernel

/-- 3.1's matching example: the table of four prefixes, and the match of each row of called digits. -/
theorem test_matching :
    let table : Table Dest := [(0, ⟨[0], 5, 0, none, 0⟩), (1, ⟨[0, 4], 20, 0, none, 0⟩), (2, ⟨[0, 4, 3, 1, 7], 81, 0, none, 0⟩),
      (3, ⟨[0, 4, 3, 1], 77, 0, none, 0⟩)]
    [[0, 4, 3, 1, 9, 5, 5, 2, 0], [0, 4, 3, 1, 7, 5, 0, 0, 0], [0, 4, 3, 2], [0, 4, 3], [1, 8]].map
      (fun called => (matchDest called table).map fun x => (x.1, x.2.list)) =
      [some (3, 77), some (2, 81), some (1, 20), some (1, 20), none] := by decide +kernel

/-- 9.9, threshold 1,000: the latch is kept at fills 1,010 and 941, and clears at 933. -/
theorem test_latch :
    latchTest true 1010 1000 = true ∧ latchTest true 941 1000 = true ∧ latchTest true 933 1000 = false ∧
    latchTest false 1000 1000 = true ∧ latchTest false 999 1000 = false := by decide +kernel

/-- 8's worked sequence: standings at totals 1,999,000, 2,003,380 under W = 2,000,000 and C = 2,500,000, then C = 2,000,000. -/
theorem test_standings :
    standingOf false 1999000 2000000 2500000 = .normal ∧ standingOf false 2003380 2000000 2500000 = .watch ∧
    standingOf false 2003380 2000000 2000000 = .suspended ∧ standingOf false 0 2000000 2000000 = .normal := by decide +kernel

/-- 8's worked sequence, event 1: the OUT account takes 4,380 sp and 288 s, and is the 412th answered leg. -/
theorem test_accounting :
    (Account.take 4380 288 ⟨1999000, false, 1204880, 411, 37, 0, true, 3, none⟩) =
      ⟨2003380, false, 1205168, 412, 37, 0, true, 3, none⟩ := by decide +kernel

/-! ### Witnesses: states and operands that meet a statement's hypotheses, one for each clause -/

/-- A command as it is taken with nothing handed on, at the count 0. -/
def now (c : Instr) : Handed := ⟨0, 0, c⟩

/-- The part with a request handed on and a sweep running. -/
def sweeping : State :=
  { afterRoute with rse := { rse310 [(17, pendingCall)] with sweep := some ⟨7, 5, 17, 0, 0⟩ } }

/-- The call in the states that follow PENDING. -/
def establishedCall : Context := { pendingCall with state := .established }
/-- ANSWERED, with its stamp. -/
def answeredCall : Context := { establishedCall with state := .answered, answerStamp := some 0 }
/-- HALTED after a far failure at entry 0, so resuming at entry 1. -/
def haltedCall : Context :=
  { pendingCall with state := .halted, outLeg := none, haltCause := some .farRefused, progress := some ⟨3, 1, [(40, 0)], 1⟩ }
/-- SPENT. -/
def spentCall : Context := { haltedCall with state := .spent, haltCause := none }
/-- A circuit busy outward. -/
def outBusy (n : Nat) : Circuit := ⟨.outBusy, false, false, some n, none, none⟩

theorem witness_StepTakesTheFrontCommand :
    ({ idle with pending := [.frameSent] } : State).pending = .frameSent :: [] ∧ idle.pending = [] := ⟨rfl, rfl⟩

/-- The part with one circuit in group 40. -/
def withCircuit (c : Circuit) : State := { idle with ctb := ⟨[(40, group 2048 .both 0 300 700 [c])]⟩ }

/-- One state for each occasion that can be absent; the sweep's boundary from both sides, timers one decisecond from due. -/
theorem witness_EveryCommandAnswersNext :
    ((requestCode (.release 17)).isSome = true ∧
      (let s := { idle with lnk := { idle.lnk with handed := some (now (.answer 1)) } }
       s.lnk.handed = some (now (.answer 1)) ∧ (now (.answer 1)).request ≠ .release 17) ∧
      State.reset.lnk.handed = none ∧ State.reset.lnk.phase ≠ .running ∧
      ({ idle with lnk := { idle.lnk with inbound := [⟨6, 1, [0, 1], 0⟩] } } : State).lnk.inbound ≠ [] ∧
      ({ idle with lnk := { idle.lnk with replies := List.replicate 16 ⟨0x86, 7, .accepted .plain⟩ } } : State).freePlaces = 0) ∧
    (idle.rse.sweep = none ∧
      (let s := { idle with rse := { idle.rse with sweep := some ⟨7, 5, 4096, 0, 0⟩ } }
       s.rse.sweep = some ⟨7, 5, 4096, 0, 0⟩ ∧ 4096 ≤ 4096) ∧
      (let s := { idle with rse := { idle.rse with sweep := some ⟨7, 5, 4095, 0, 0⟩ } }
       s.rse.sweep = some ⟨7, 5, 4095, 0, 0⟩ ∧ 4095 < 4096)) ∧
    (withCircuit ⟨.guard, false, false, none, some 1, none⟩).circuit? 40 0 = some ⟨.guard, false, false, none, some 1, none⟩ ∧
    (withCircuit ⟨.outPending, false, false, some 0, none, some 1⟩).circuit? 40 0 =
      some ⟨.outPending, false, false, some 0, none, some 1⟩ ∧
    ((withCircuit free).group? 40).map (·.sampleTimer) = some (some 50) ∧ idle.dest? 0 = none ∧
    idle.clk.midnightDue = false ∧ (after .resetInputAsserted idle).lnk.phase = .inReset ∧ idle.lnk.inbound = [] ∧
    ({ idle with lnk := { idle.lnk with sending := some ⟨0x86, 6, [0]⟩ } } : State).lnk.sending ≠ none ∧
    idle.lnk.sending = none ∧ idle.lnk.phase ≠ .clearing := by decide +kernel

theorem witness_RequestTakenIsAnsweredOnce :
    requestCode (.release 17) = some 7 ∧ Instr.release 17 ≠ .trafficRestart ∧
    afterRoute.takes? (.release 17) = some (now (.release 17)) := by decide +kernel

theorem witness_SweepRefusesRequests :
    requestCode .trafficRestart = some 0x49 ∧ (∀ t n m x, Instr.trafficRestart ≠ .query t n m x) ∧
    (∀ n, Instr.trafficRestart ≠ .recordsFetch n) ∧ sweeping.takes? .trafficRestart = some (now .trafficRestart) ∧
    sweeping.sweeping = true :=
  ⟨by decide +kernel, by simp, by simp, by decide +kernel, by decide +kernel⟩

/-- The part with 40/0 OUT_PENDING and the greater key at this end, so that a SEIZE_IN of it is glare this end wins. -/
def glareWon : State := { idle with ctb := ⟨[(40, group 2048 .both 0 700 300 [seized 17])]⟩ }

/-- A refusal by status, by BAD_FIELD and by NO_ROUTE, and the one that counts. -/
theorem witness_RefusedTrafficRequestChangesNothing :
    let refuses := fun (c : Instr) (k : Byte) (s : State) (a : Answer) =>
      requestCode c = some k ∧ s.takes? c = some (now c) ∧ exec c s = .next (after c s) ∧
      (after c s).lnk.replies = s.lnk.replies ++ [⟨k + 0x80, 0, a⟩]
    refuses (.confirm 4095 40 0) 0x04 afterRoute (.denied .wrongState) ∧
    refuses (.periodClose 64) 0x40 idle (.badField 0 0xFF 0) ∧
    refuses (.destClear (digits16 [7])) 0x19 idle (.selection none .noRoute) ∧
    refuses (.farMark (digits16 [7]) 1 50) 0x08 idle (.selection none .noRoute) ∧
    refuses (.seizeIn 40 0 5 1) 0x01 glareWon (.denied .glareRejected) := by
  refine ⟨?_, ?_, ?_, ?_, ?_⟩ <;> exact ⟨by decide +kernel, by decide +kernel, rfl, by decide +kernel⟩

/-- A part with a PENDING call, a guarded leg on it, a notice, and CONFIRM waiting. -/
def lively : State :=
  { withCall { pendingCall with outLeg := some ⟨40, 0, 0, 1, 12, true⟩ } [seized 17] with
    sac := { Sac.powerOn with mode := .strict, guarded := 1 }
    enu := { Enu.powerOn with notices := [⟨.startup 0, 1, 0⟩] }
    pending := [.confirm 17 40 0] }

/-- Every invariant holds in `lively`, and its next step establishes the call. -/
theorem witness_lively_steps :
    step lively = .next (after (.confirm 17 40 0) (lively.withPending [])) ∧
    (after (.confirm 17 40 0) (lively.withPending [])).circuit? 40 0 = some (outBusy 17) := ⟨rfl, by decide +kernel⟩

theorem witness_StepKeepsTablesCanonical : lively.canonical = true := by decide +kernel
theorem witness_StepKeepsGroupsSound : lively.groupsSound := by unfold State.groupsSound Group.sound; decide +kernel
theorem witness_StepKeepsRunsDisjoint : lively.runsDisjoint := by unfold State.runsDisjoint; decide +kernel
theorem witness_StepKeepsStandingsDerived : lively.standingsDerived := by unfold State.standingsDerived; decide +kernel
theorem witness_StepKeepsLocksAgreeing : lively.locksAgree := by
  intro i d
  cases d <;> revert i <;> decide +kernel
theorem witness_StepKeepsNoticesBounded : lively.noticesBounded := by unfold State.noticesBounded; decide +kernel
theorem witness_StepKeepsBudgetsHeld : lively.budgetsHeld := by
  intro x hx g hg
  simp only [lively, withCall, rse310, List.mem_singleton] at hx
  subst hx
  simp only [pendingCall, Option.some.injEq] at hg
  subst hg
  unfold Progress.withinBudget
  decide +kernel
theorem witness_StepKeepsRecordRoom : lively.roomKept := by
  refine ⟨by decide +kernel, ?_, by decide +kernel, by decide +kernel⟩
  intro x hx
  simp only [lively, withCall, rse310, List.mem_singleton] at hx
  subst hx
  exact ⟨by decide +kernel, by decide +kernel, by intro o ho _; cases ho; decide +kernel⟩
theorem witness_StepKeepsCallsAgreeing : lively.callsAgree := by
  have circuits : ∀ g m c, lively.circuit? g m = some c →
      (g = 8 ∧ m = 0 ∧ c = held 17) ∨ (g = 40 ∧ m = 0 ∧ c = seized 17) ∨ (g = 52 ∧ m = 0 ∧ c = free) := by
    intro g m c h
    simp only [State.circuit?, State.group?, lively, withCall, tget] at h
    have single : ∀ d : Circuit, [d][m]? = some c → m = 0 ∧ c = d := by
      intro d hd
      cases m <;> simp at hd
      exact ⟨rfl, hd.symm⟩
    split at h
    · split_ifs at h with h1 h2 h3
      · exact .inl ⟨h1.symm, single _ h⟩
      · exact .inr (.inl ⟨h2.symm, single _ h⟩)
      · exact .inr (.inr ⟨h3.symm, single _ h⟩)
      · simp at h
    · simp at h
  have calls : ∀ n x, lively.context? n = some x → n = 17 ∧ x = { pendingCall with outLeg := some ⟨40, 0, 0, 1, 12, true⟩ } := by
    intro n x h
    simp only [State.context?, lively, withCall, rse310, tget] at h
    split_ifs at h with h1
    exact ⟨h1.symm, by simpa using h.symm⟩
  refine ⟨witness_StepKeepsTablesCanonical, witness_StepKeepsGroupsSound, ?_, ?_, ?_, ?_⟩
  · intro g m c h hb
    rcases circuits g m c h with ⟨rfl, rfl, rfl⟩ | ⟨rfl, rfl, rfl⟩ | ⟨rfl, rfl, rfl⟩
    · simp [held] at hb
    · exact ⟨17, _, _, rfl, rfl, rfl, rfl, rfl, fun _ => rfl, by decide⟩
    · simp [free] at hb
  · intro g m c h hb
    rcases circuits g m c h with ⟨rfl, rfl, rfl⟩ | ⟨rfl, rfl, rfl⟩ | ⟨rfl, rfl, rfl⟩
    · exact ⟨17, _, rfl, rfl, rfl, rfl⟩
    · simp [seized] at hb
    · simp [free] at hb
  · intro n x h
    obtain ⟨rfl, rfl⟩ := calls n x h
    exact ⟨⟨held 17, rfl, rfl, rfl⟩, fun o ho => by cases ho; exact ⟨seized 17, rfl, rfl, rfl⟩⟩
  · intro x hx
    simp only [lively, withCall, rse310, List.mem_singleton] at hx
    subst hx
    exact ⟨rfl, by decide +kernel, fun w hw => by simp [lively, withCall, rse310] at hw⟩

theorem witness_RequestBodyReadsBack :
    (Instr.route 4095 15 (digits24 (List.replicate 24 9))).wellFormed = true ∧
    requestCode (.route 4095 15 (digits24 (List.replicate 24 9))) = some 2 := by decide +kernel

/-- A body of 480 bytes, the longest; and a full inbound queue. -/
theorem witness_FrameOnTheWireIsQueued :
    (List.replicate 480 (0xA5 : Byte)).length ≤ 480 ∧
    (let s := { idle with lnk := { idle.lnk with rx := ⟨true, [], false, false⟩, inbound := List.replicate 16 ⟨6, 1, [0, 1], 0⟩ } }
     s.lnk.phase ≠ .inReset ∧ s.lnk.rx = ⟨true, [], false, false⟩ ∧ ¬ s.lnk.inbound.length < 16) := by decide +kernel

/-- A wire for each outcome: an escape error, one at the delimiter, no byte, six bytes, a body length of 481, a byte too few, a wrong
check, a good frame with an escaped byte, and a full queue; then the receiver before its first delimiter. -/
theorem witness_FrameTestsDecideTheDiscard :
    (idle.lnk.phase ≠ .inReset ∧
      (let s := { idle with lnk := { idle.lnk with rx := ⟨true, [], false, false⟩ } }
       s.lnk.phase ≠ .inReset ∧ s.lnk.rx = ⟨true, [], false, false⟩) ∧
      (let r := [1, 0xA6, 7].foldl Receiver.byte ⟨true, [], false, false⟩; r.bad = true) ∧
      (let r := [1, 0xA6].foldl Receiver.byte ⟨true, [], false, false⟩; r.bad = false ∧ r.escape = true) ∧
      (let r := [0, 0, 6, 0, 1, 2].foldl Receiver.byte ⟨true, [], false, false⟩; r.bad = false ∧ r.collected.length < 7) ∧
      (let r := [1, 0xE1, 6, 0, 1, 2, 3].foldl Receiver.byte ⟨true, [], false, false⟩
       7 ≤ r.collected.length ∧ field r.collected 0 2 = 481) ∧
      (let r := [0, 2, 6, 0, 1, 2, 3, 4].foldl Receiver.byte ⟨true, [], false, false⟩
       field r.collected 0 2 = 2 ∧ r.collected.length ≠ 5 + 2 + 2) ∧
      (let r := [0, 0, 6, 0, 1, 0, 0].foldl Receiver.byte ⟨true, [], false, false⟩
       field r.collected 0 2 = 0 ∧ r.collected.length = 5 + 0 + 2 ∧
       crc (r.collected.take 5) ≠ BitVec.ofNat 16 (ofBe (r.collected.drop 5))) ∧
      (let wire := escapeBytes (frameContent 6 0xA5A6 [0, 230])
       let r := wire.foldl Receiver.byte ⟨true, [], false, false⟩
       0xA5 ∉ wire ∧ r.bad = false ∧ r.escape = false ∧ r.collected.length = 5 + 2 + 2 ∧
       crc (r.collected.take 7) = BitVec.ofNat 16 (ofBe (r.collected.drop 7)) ∧
       BitVec.ofNat 16 (field r.collected 3 2) = (0xA5A6 : BitVec 16)) ∧
      (let s := { idle with lnk := { idle.lnk with inbound := List.replicate 16 ⟨6, 1, [0, 1], 0⟩ } }
       16 ≤ s.lnk.inbound.length)) ∧
    idle.lnk.rx = ⟨false, [], false, false⟩ ∧ exec (.frameComplete [7]) idle = .next (after (.frameComplete [7]) idle) ∧
    step { idle with pending := [.frameComplete [7]] } = .next (after (.frameComplete [7]) idle) :=
  ⟨by decide +kernel, by decide +kernel, rfl, rfl⟩

/-- The part with one frame in its inbound queue. -/
def withFrame (f : InFrame) : State := { idle with lnk := { idle.lnk with inbound := [f] } }

theorem witness_TakenFrameIsJudged :
    (∀ f, (withFrame f).lnk.inbound = f :: [] ∧ (withFrame f).lnk.phase = .running ∧ (withFrame f).lnk.handed = none ∧
      0 < (withFrame f).freePlaces) ∧
    ((Instr.answer 230).wellFormed = true ∧ requestCode (.answer 230) = some 6 ∧ [0, 230] = requestBody (.answer 230)) ∧
    requestLength (0x09 : Byte).toNat [] = none ∧ (requestLength (0x1A : Byte).toNat [0, 0, 2] = some 9 ∧ [0, 0, (2 : Byte)].length ≠ 9) :=
  ⟨fun _ => ⟨rfl, rfl, rfl, Nat.zero_lt_succ 15⟩, by decide +kernel⟩

/-- The part with notices and replies waiting, and a frame being sent or not. -/
def withTraffic (rs : List Reply) (run : Nat) (sending : Option Frame) (ns : List Notice) : State :=
  { idle with lnk := { idle.lnk with replies := rs, replyRun := run, sending }, enu := { enu106 with notices := ns } }

theorem witness_TransmitterSendsTheFirstNotice :
    (let s := withTraffic [] 0 none queue106
     s.lnk.sending = none ∧ s.enu.notices ≠ [] ∧ s.lnk.replies = []) ∧
    (let s := withTraffic [⟨0x86, 7, .accepted .plain⟩] 8 (some ⟨0x86, 6, [0]⟩) queue106
     s.lnk.sending ≠ none ∧ s.enu.notices ≠ [] ∧ s.lnk.replyRun = 8) := by decide +kernel

theorem witness_TransmitterSendsTheOldestReply :
    (let s := withTraffic [⟨0x86, 7, .accepted .plain⟩] 7 none queue106
     s.lnk.sending = none ∧ s.lnk.replies = ⟨0x86, 7, .accepted .plain⟩ :: [] ∧ s.lnk.replyRun < 8) ∧
    (let s := withTraffic [] 0 (some ⟨0x86, 6, [0]⟩) []
     s.lnk.sending ≠ none ∧ s.lnk.replies = [] ∧ s.enu.notices = []) := by decide +kernel

theorem witness_ResetAndStartUp :
    (State.reset.lnk.phase = .clearing ∧ State.reset.enu.config .startup = ⟨true, 0, .notice⟩ ∧ State.reset.enu.notices = [] ∧
      State.reset.lnk.replies = [] ∧ State.reset.lnk.sending = none) ∧
    State.reset.clearKept ∧
    step { State.reset with pending := [.endOfDecisecond] } = .next (after .endOfDecisecond State.reset) :=
  ⟨by decide +kernel, fun _ => ⟨rfl, rfl, rfl, rfl, rfl, rfl, rfl, rfl, rfl, rfl⟩, rfl⟩

theorem witness_SeizeInTakesAContext :
    Taken beforeRoute (.seizeIn 40 0 7 1) (now (.seizeIn 40 0 7 1)) ∧ beforeRoute.group? 40 = some (group 2048 .both 0 300 700 [free]) ∧
    (group 2048 .both 0 300 700 [free]).members[0]? = some free ∧ decodePriority 1 = some .normal ∧ LowestFree beforeRoute 0 ∧
    Admits beforeRoute 0 := by
  unfold Taken LowestFree Admits; decide +kernel

/-- A call whose budget of 1 is used up. -/
def lastTry : Context := { pendingCall with progress := some ⟨1, 1, [(40, 0)], 0⟩ }

/-- The greater local key; the lesser with the budget used up, and with two attempts left for the re-hunt. -/
theorem witness_GlareIsDecidedByTheKeys :
    (Taken afterRoute (.seizeIn 40 0 7 2) (now (.seizeIn 40 0 7 2)) ∧ decodePriority 2 = some .deferrable ∧
      (afterRoute.group? 40).map (fun r => (r.direction, r.state, r.members[0]?)) = some (.both, .inService, some (seized 17)) ∧
      (seized 17).state = .outPending ∧ (seized 17).context = some 17) ∧
    (group 2048 .both 0 701 700 [seized 17]).farKey < (group 2048 .both 0 701 700 [seized 17]).localKey ∧
    (let s := withCall lastTry [seized 17]
     Taken s (.seizeIn 40 0 7 2) (now (.seizeIn 40 0 7 2)) ∧ LowestFree s 0 ∧ Admits s 0 ∧ s.context? 17 = some lastTry ∧
     lastTry.mayTry = false) ∧
    (LowestFree afterRoute 0 ∧ Admits afterRoute 0 ∧ afterRoute.context? 17 = some pendingCall ∧ pendingCall.mayTry = true ∧
     17 ≤ 4095) := by
  unfold Taken LowestFree Admits; decide +kernel

theorem witness_HuntOrderFollowsTheGroup :
    let r := { group 0 .outgoing 0 1 2 [free, free, free] with huntOrder := .rotating, rotate := 2 }
    r.direction = .outgoing ∧ r.huntOrder = .rotating ∧ r.rotate < r.size ∧ r.huntSequence = [2, 0, 1] := by decide +kernel

/-- The part with one call on context 17, groups 40 and 52 as given, and the destination's entry as given. -/
def onGroups (x : Context) (d : Dest) (first second : Group) : State :=
  { idle with
    ctb := ⟨[(8, group 0 .incoming 0 0 0 [held 17]), (40, first), (52, second)]⟩
    rse := { rse310 [(17, x)] with dests := [(9, d)] } }
/-- The destination "0431" with no mark. -/
def dest9 : Dest := ⟨[0, 4, 3, 1], 310, 0, none, 0⟩
/-- A NORMAL alternate at level HEAVY is barred; this group is at HEAVY. -/
def heavy52 (ms : List Circuit) : Group := { group 3000 .outgoing 12 0 0 ms with score := 11 }

/-- Granted at once; entry 0 skipped for its group's state, then entry 1 granted or its hunt in vain; both skipped. -/
theorem witness_RouteIsGrantedOnItsFirstChoice :
    (∀ s : State, s.lnk = idle.lnk → s.rse.sweep = none →
      Taken s (.route 17 3 (digits24 [0, 4, 3, 1])) ⟨0, s.clk.count, .route 17 3 (digits24 [0, 4, 3, 1])⟩) ∧
    readDigits 24 (digits24 [0, 4, 3, 1]) = some [0, 4, 3, 1] ∧
    (let r := group 2048 .both 0 300 700 [free]
     let s := onGroups incoming dest9 r (group 3000 .outgoing 12 0 0 [free])
     s.context? 17 = some incoming ∧ incoming.state = .inOnly ∧ matchDest [0, 4, 3, 1] s.rse.dests = some (9, dest9) ∧
     MarkAdmits dest9 .normal ∧ ResolvesTo s 310 310 ∧ s.list 310 = [] ++ ⟨40, 1⟩ :: [⟨52, 3⟩] ∧ s.group? 40 = some r ∧
     gateReason s .normal 0 ⟨40, 1⟩ = none ∧
     r.huntSequence.find? (fun j => r.members[j]?.any fun c => c.state == .idle) = some 0) ∧
    (let r := group 3000 .outgoing 12 0 0 [free]
     let s := onGroups incoming dest9 { group 2048 .both 0 300 700 [free] with state := .blocked } r
     none ∉ gateReasons s .normal 0 [⟨40, 1⟩] ∧ s.list 310 = [⟨40, 1⟩] ++ ⟨52, 3⟩ :: [] ∧ s.group? 52 = some r ∧
     gateReason s .normal 1 ⟨52, 3⟩ = none ∧
     r.huntSequence.find? (fun j => r.members[j]?.any fun c => c.state == .idle) = some 0) ∧
    (let r := group 3000 .outgoing 12 0 0 [outBusy 4]
     let s := onGroups incoming dest9 { group 2048 .both 0 300 700 [free] with state := .blocked } r
     none ∉ gateReasons s .normal 0 [⟨40, 1⟩] ∧ s.list 310 = [⟨40, 1⟩] ++ [⟨52, 3⟩] ∧ s.group? 52 = some r ∧
     gateReason s .normal 1 ⟨52, 3⟩ = none ∧
     r.huntSequence.find? (fun j => r.members[j]?.any fun c => c.state == .idle) = none ∧
     r.huntSequence.find? (fun j => (r.members[j]?.any fun c => c.state == .idle) && !([] : List (Nat × Nat)).contains (52, j)) = none) ∧
    (let s := onGroups incoming dest9 { group 2048 .both 0 300 700 [free] with state := .blocked } (heavy52 [free])
     gateReasons s .normal 0 (s.list 310) = [some .groupState, some .congestion] ∧
     bypassOver s .normal 0 (s.list 310) 0 = 3) := by
  refine ⟨fun s h h' => ⟨?_, by simp [State.sweeping, h']⟩, by decide +kernel, ?_, by decide +kernel, by decide +kernel,
    by decide +kernel⟩
  · simp [State.takes?, State.freePlaces, State.reservedPlaces, State.sweeping, h, h', idle, Lnk.powerOn]
  · unfold MarkAdmits ResolvesTo; decide +kernel

/-- An ACTIVE slot masks a higher-numbered one on the same list. -/
theorem witness_ResolvesTo :
    ResolvesTo { idle with rse := { idle.rse with
      slots := (idle.rse.slots.set 2 ⟨310, 77, .manual, .manual, .active⟩).set 5 ⟨310, 78, .manual, .manual, .active⟩ } } 310 77 := by
  unfold ResolvesTo; decide +kernel

/-- The destination under a mark of level 2, its gap counter at 3. -/
def marked : State := { beforeRoute with rse := { beforeRoute.rse with dests := [(9, ⟨[0, 4, 3, 1], 310, 2, some 5, 3⟩)] } }

theorem witness_RouteWithoutSelectionIsSpent :
    (Taken marked (.route 17 0 (digits24 [0, 4])) (now (.route 17 0 (digits24 [0, 4]))) ∧
      readDigits 24 (digits24 [0, 4]) = some [0, 4] ∧ marked.context? 17 = some incoming ∧ incoming.state = .inOnly ∧
      matchDest [0, 4] marked.rse.dests = none) ∧
    (Taken marked (.route 17 0 (digits24 [0, 4, 3, 1])) (now (.route 17 0 (digits24 [0, 4, 3, 1]))) ∧
      readDigits 24 (digits24 [0, 4, 3, 1]) = some [0, 4, 3, 1] ∧
      matchDest [0, 4, 3, 1] marked.rse.dests = some (9, ⟨[0, 4, 3, 1], 310, 2, some 5, 3⟩) ∧ incoming.priority = .normal) := by
  unfold Taken; decide +kernel

/-- The halted call, which resumes at entry 1, group 52: its budget used up; its destination vacant, refused, or admitted, and then
group 52 free, wholly tried, or barred; and resuming at entry 0, entry 0 skipped. -/
theorem witness_ContinueTriesWithinTheBudget :
    (let x := { haltedCall with progress := some ⟨1, 1, [(40, 0)], 1⟩ }
     let s := withCall x [free]
     Taken s (.continueCall 17) (now (.continueCall 17)) ∧ s.context? 17 = some x ∧ x.state = .halted ∧
     x.progress = some ⟨1, 1, [(40, 0)], 1⟩) ∧
    (haltedCall.progress = some ⟨3, 1, [(40, 0)], 1⟩ ∧ haltedCall.destination = some 9 ∧ haltedCall.resolved = some 310) ∧
    (let s := { withCall haltedCall [free] with rse := { rse310 [(17, haltedCall)] with dests := [] } }
     Taken s (.continueCall 17) (now (.continueCall 17)) ∧ s.context? 17 = some haltedCall ∧ s.dest? 9 = none) ∧
    ¬ MarkAdmits ⟨[0, 4, 3, 1], 310, 2, some 9, 3⟩ .normal ∧
    (let r := group 3000 .outgoing 12 0 0 [free]
     let s := onGroups haltedCall dest9 (group 2048 .both 0 300 700 [free]) r
     Taken s (.continueCall 17) (now (.continueCall 17)) ∧ s.dest? 9 = some dest9 ∧ MarkAdmits dest9 .normal ∧
     (s.list 310).drop 1 = [] ++ ⟨52, 3⟩ :: [] ∧ s.group? 52 = some r ∧ gateReason s .normal (1 + 0) ⟨52, 3⟩ = none ∧
     r.huntSequence.find? (fun j => (r.members[j]?.any fun c => c.state == .idle) && !(List.contains [(40, 0)] (52, j))) = some 0 ∧
     r.huntSequence.find? (fun j => (r.members[j]?.any fun c => c.state == .idle) && !(List.contains [(52, 0)] (52, j))) = none) ∧
    (let s := onGroups haltedCall dest9 (group 2048 .both 0 300 700 [free]) (heavy52 [free])
     gateReasons s .normal 1 ((s.list 310).drop 1) = [some .congestion]) ∧
    (let s := onGroups haltedCall dest9 { group 2048 .both 0 300 700 [free] with state := .draining } (group 3000 .outgoing 12 0 0 [free])
     (s.list 310).drop 0 = [⟨40, 1⟩] ++ ⟨52, 3⟩ :: [] ∧ none ∉ gateReasons s .normal 0 [⟨40, 1⟩] ∧
     gateReason s .normal (0 + 1) ⟨52, 3⟩ = none) := by
  unfold Taken MarkAdmits; decide +kernel

theorem witness_ConfirmEstablishesTheCall :
    Taken afterRoute (.confirm 17 40 0) (now (.confirm 17 40 0)) ∧ afterRoute.context? 17 = some pendingCall ∧
    pendingCall.state = .pending ∧ pendingCall.outLeg = some ⟨40, 0, 0, 1, 0, false⟩ ∧
    afterRoute.group? 40 = some (group 2048 .both 0 300 700 [seized 17]) ∧ (seized 17).state = .outPending := by
  unfold Taken; decide +kernel

/-- One state for each row of the table: FREE, IN_ONLY, SPENT, HALTED, PENDING on another circuit, ANSWERED on this one. -/
theorem witness_ReportsAreRefusedByTheTable :
    (∀ x : Context, Taken (withCall x [free]) (.failCall 17 40 0 2 1) (now (.failCall 17 40 0 2 1)) ∧
      (withCall x [free]).group? 40 = some (group 2048 .both 0 300 700 [free]) ∧ (withCall x [free]).context? 17 = some x ∧
      (withCall x [free]).context? 4095 = none) ∧
    0 < (group 2048 .both 0 300 700 [free]).size ∧ incoming.state = .inOnly ∧ spentCall.state = .spent ∧
    haltedCall.state = .halted ∧ (pendingCall.outLeg = some ⟨40, 0, 0, 1, 0, false⟩ ∧ ¬ (40 = 52 ∧ 0 = 0)) ∧
    (answeredCall.state = .answered ∧ answeredCall.outLeg = some ⟨40, 0, 0, 1, 0, false⟩) :=
  ⟨fun _ => ⟨⟨rfl, rfl⟩, rfl, rfl, rfl⟩, by decide +kernel⟩

/-- The group in service, and DRAINING with this its last busy circuit; the continue flag clear and set. -/
theorem witness_FailHaltsTheContext :
    (∀ cause again, Taken afterRoute (.failCall 17 40 0 cause again) (now (.failCall 17 40 0 cause again))) ∧
    afterRoute.context? 17 = some pendingCall ∧ pendingCall.progress = some ⟨3, 1, [(40, 0)], 0⟩ ∧
    pendingCall.outLeg = some ⟨40, 0, 0, 1, 0, false⟩ ∧
    afterRoute.group? 40 = some (group 2048 .both 0 300 700 [seized 17]) ∧ 0 < (group 2048 .both 0 300 700 [seized 17]).size ∧
    (let r := { group 2048 .both 0 300 700 [seized 17] with state := .draining }
     drainedAs { r with members := r.members.set 0 (releasedAs r (seized 17)) } ≠
       { r with members := r.members.set 0 (releasedAs r (seized 17)) }) :=
  ⟨fun _ _ => ⟨rfl, rfl⟩, by decide +kernel⟩

theorem witness_AnswerStampsTheArrival :
    (let s := withCall establishedCall [outBusy 17]
     Taken s (.answer 17) (now (.answer 17)) ∧ s.context? 17 = some establishedCall ∧ establishedCall.state = .established) ∧
    (Taken afterRoute (.answer 4095) (now (.answer 4095)) ∧ afterRoute.context? 4095 = none) := by
  unfold Taken; decide +kernel

/-- The in-leg alone, in service and as the last busy circuit of a DRAINING group; with a PENDING out-leg in another group, and with
an ESTABLISHED one in the same group. -/
theorem witness_ReleaseCountsUnansweredLegs :
    (Taken beforeRoute (.release 17) (now (.release 17)) ∧ beforeRoute.context? 17 = some incoming ∧ incoming.outLeg = none ∧
      beforeRoute.group? 8 = some (group 0 .incoming 0 0 0 [held 17]) ∧ (held 17).state.isBusy = true) ∧
    (let r := { group 0 .incoming 5 0 0 [held 17] with state := .draining }
     let after := { r with members := r.members.set 0 (releasedAs r (held 17)) }
     (drainedAs after).state = .blocked) ∧
    (Taken afterRoute (.release 17) (now (.release 17)) ∧ afterRoute.context? 17 = some pendingCall ∧
      pendingCall.outLeg = some ⟨40, 0, 0, 1, 0, false⟩ ∧ 40 ≠ pendingCall.inLeg.group ∧
      afterRoute.group? 40 = some (group 2048 .both 0 300 700 [seized 17]) ∧ (seized 17).state.isBusy = true) ∧
    (let x := { establishedCall with inLeg := ⟨40, 0, 63, 2, true⟩, outLeg := some ⟨40, 1, 0, 1, 63, false⟩ }
     let r := group 2048 .both 63 300 700 [held 17, outBusy 17]
     let s := { idle with ctb := ⟨[(40, r)]⟩, rse := rse310 [(17, x)] }
     let after := { r with members := r.members.set 0 (releasedAs r (held 17)) }
     Taken s (.release 17) (now (.release 17)) ∧ s.group? 40 = some r ∧ x.carrierOn .inLeg = some 62 ∧
     x.carrierOn .outLeg = some 62 ∧ (drainedAs after).members[1]? = some (outBusy 17) ∧ (outBusy 17).state.isBusy = true) := by
  unfold Taken; decide +kernel

/-- An ANSWERED call with both legs chargeable, its circuits 8/0 and 40/0. -/
def billedCall : Context := { answeredCall with inLeg := ⟨8, 0, 7, 2, false⟩, outLeg := some ⟨40, 0, 0, 3, 12, false⟩ }

/-- Which legs are rated; both circuits busy; a record with room and without; each event of a rating. -/
theorem witness_ReleaseRatesTheOutLeg :
    (∀ x ms, Taken (withCall x ms) (.release 17) (now (.release 17)) ∧ (withCall x ms).context? 17 = some x) ∧
    (answeredCall.state = .answered ∧ answeredCall.answerStamp = some 0 ∧ answeredCall.carrierOn .inLeg = none ∧
      answeredCall.carrierOn .outLeg = none) ∧
    (let x := { answeredCall with inLeg := ⟨8, 0, 7, 2, false⟩ }
     x.carrierOn .inLeg = some 6 ∧ x.carrierOn .outLeg = none) ∧
    (let x := { answeredCall with outLeg := some ⟨52, 0, 1, 3, 12, true⟩ }
     x.carrierOn .inLeg = none ∧ x.carrierOn .outLeg = some 11) ∧
    (let s := withCall billedCall [outBusy 17]
     billedCall.carrierOn .inLeg = some 6 ∧ billedCall.carrierOn .outLeg = some 11 ∧
     s.group? 8 = some (group 0 .incoming 0 0 0 [held 17]) ∧ (held 17).state.isBusy = true ∧
     s.group? 40 = some (group 2048 .both 0 300 700 [outBusy 17]) ∧ (outBusy 17).state.isBusy = true) ∧
    (let k := { Sac.powerOn with records := List.replicate 1023 exampleRecord }
     k.places false = true ∧ (k.rated 6 false { exampleRecord with direction := .inLeg }).places false = false ∧
     (k.rated 6 false { exampleRecord with direction := .inLeg }).places true = true) ∧
    (let full := { Account.powerOn with total := 1099511627775 - exampleRecord.charge }
     let k := { Sac.powerOn with
       carriers := Sac.powerOn.carriers.set 11 { Carrier.powerOn with cap := 1099511627775, outAccount := full }
       records := List.replicate 895 exampleRecord }
     (k.carriers[11].account .outLeg).saturated = false ∧
     1099511627775 ≤ (k.carriers[11].account .outLeg).total + exampleRecord.charge ∧ k.places false = true ∧
     (k.rated 11 false exampleRecord).latch ≠ k.latch ∧
     (k.rated 11 false exampleRecord).carriers[11].standing ≠ k.carriers[11].standing) := by
  refine ⟨fun _ _ => ⟨⟨rfl, rfl⟩, rfl⟩, by decide +kernel, by decide +kernel, by decide +kernel, by decide +kernel, by decide +kernel,
    by decide +kernel⟩


theorem witness_BilledSecondsAreWholeIncrements :
    (30 ≤ 600 ∧ 6 ∈ increments ∧ isClamped (secondsOf 864000 30) 6 = false ∧ isClamped (secondsOf 864001 30) 6 = true) := by
  decide +kernel

/-- Every rate at its greatest, for a whole day. -/
theorem witness_ChargeStaysWithinItsBounds :
    (let t := { Tariff.powerOn with rates := Vector.replicate 32 65535, fee := 65535 }
     (∀ p, t.rate 7 p ≤ 65535) ∧ [864000, 0, 0, 0].length = 4 ∧ [864000, 0, 0, 0].sum ≤ 864000 ∧ 400 ≤ 400 ∧ t.fee ≤ 65535) ∧
    (out12.minimum ≤ 600 ∧ out12.increment ∈ increments ∧ clk75.work.sound ∧ clk75.rest.sound ∧ clk75.clock = .set ∧
      Clk.powerOn.work.sound ∧ Clk.powerOn.rest.sound ∧ Clk.powerOn.clock = .unset ∧
      outLeg75.direction = .outLeg ∧ outLeg75.level = (3 : Fin 5).val ∧
      billedOf (secondsOf 0 0) 1 = 0 ∧ billedOf (secondsOf 1 0) 1 ≠ 0) := by
  refine ⟨⟨fun p => ?_, by decide +kernel⟩, by unfold Schedule.sound; decide +kernel⟩
  by_cases h : 4 * 7 + p < 32
  · simp only [Tariff.rate]
    have : ∀ q : Fin 32, (Vector.replicate 32 65535).toList.getD q.val 0 ≤ 65535 := by decide +kernel
    exact this ⟨4 * 7 + p, h⟩
  · simp only [Tariff.rate]
    rw [List.getD_eq_default _ _ (by simp; omega)]
    omega

theorem witness_PeriodTimesCountInstants :
    864000 ≤ 864000 ∧ (∀ x, (x = clk65.work ∨ x = clk65.rest) →
      (x.boundaries.map Prod.fst).Pairwise (· < ·) ∧ ∀ b ∈ x.boundaries, 1 ≤ b.1 ∧ b.1 ≤ 1439) := by
  refine ⟨by omega, fun x hx => ?_⟩
  rcases hx with rfl | rfl <;> decide +kernel

/-- Group 40 BLOCKED. -/
def blocked40 : Group := { group 2048 .both 0 300 700 [free] with state := .blocked, sampleTimer := none }
/-- The part with group 40 as given. -/
def withGroup (r : Group) : State := { idle with ctb := ⟨[(40, r)]⟩ }

theorem witness_GroupDefineMakesTheGroup :
    (∀ r, Taken (withGroup r) (.groupDefine define40) (now (.groupDefine define40))) ∧
    (define40.group ≤ 255 ∧ decodeDirection define40.direction = some .both ∧ decodeHuntOrder define40.huntOrder = some .ascending ∧
      define40.localKey ≠ define40.farKey ∧ 0 < define40.size ∧ define40.first + define40.size ≤ 16384) ∧
    ((withGroup blocked40).group? 40 = some blocked40 ∧ blocked40.state = .blocked ∧
      ∀ x ∈ (withGroup blocked40).ctb.groups, x.1 ≠ 40 → runsOverlap 2048 2 x.2.first x.2.size = false) ∧
    (Taken (withGroup blocked40) (.groupDefine { define40 with size := 0 }) (now (.groupDefine { define40 with size := 0 })) ∧
      idle.group? 40 = none) ∧
    (group 2048 .both 0 300 700 [free]).state ≠ .blocked :=
  ⟨fun _ => ⟨rfl, rfl⟩, by decide +kernel, by decide +kernel, by unfold Taken; decide +kernel, by decide +kernel⟩

theorem witness_GroupBlockAndUnblock :
    (∀ r, Taken (withGroup r) (.groupBlock 40) (now (.groupBlock 40)) ∧ Taken (withGroup r) (.groupUnblock 40) (now (.groupUnblock 40)) ∧
      (withGroup r).group? 40 = some r) ∧
    (group 2048 .both 0 300 700 [free]).busy = 0 ∧ 0 < (group 2048 .both 0 300 700 [held 1]).busy ∧ blocked40.state ≠ .inService :=
  ⟨fun _ => ⟨⟨rfl, rfl⟩, ⟨rfl, rfl⟩, rfl⟩, by decide +kernel⟩

theorem witness_CircuitBlockAndUnblock :
    ∀ c : Circuit, Taken (withGroup (group 2048 .both 0 300 700 [c])) (.circuitBlock 40 0) (now (.circuitBlock 40 0)) ∧
      Taken (withGroup (group 2048 .both 0 300 700 [c])) (.circuitUnblock 40 0) (now (.circuitUnblock 40 0)) ∧
      (withGroup (group 2048 .both 0 300 700 [c])).group? 40 = some (group 2048 .both 0 300 700 [c]) ∧
      (group 2048 .both 0 300 700 [c]).members[0]? = some c :=
  fun _ => ⟨⟨rfl, rfl⟩, ⟨rfl, rfl⟩, rfl, rfl⟩

theorem witness_BusyAndIdleFollowTheCircuits : (group 0 .both 0 1 2 [free, held 3]).members[1]? = some (held 3) := rfl

/-- An entry found, and one to be made at the lowest vacant place. -/
theorem witness_DestSetAndClear :
    readDigits 16 (digits16 [0, 4, 3, 1]) = some [0, 4, 3, 1] ∧
    Taken beforeRoute (.destSet (digits16 [0, 4, 3, 1]) 1023) (now (.destSet (digits16 [0, 4, 3, 1]) 1023)) ∧
    Taken beforeRoute (.destClear (digits16 [0, 4, 3, 1])) (now (.destClear (digits16 [0, 4, 3, 1]))) ∧
    beforeRoute.dest? 9 = some ⟨[0, 4, 3, 1], 310, 0, none, 0⟩ ∧ beforeRoute.prefixesDistinct ∧
    step { beforeRoute with pending := [.destSet (digits16 [0]) 1] } = .next (after (.destSet (digits16 [0]) 1) beforeRoute) ∧
    ((∀ e ∈ idle.rse.dests, e.2.digits ≠ [0, 4, 3, 1]) ∧ idle.dest? 0 = none) := by
  refine ⟨by decide +kernel, ⟨rfl, rfl⟩, ⟨rfl, rfl⟩, rfl, ?_, rfl, by decide +kernel⟩
  unfold State.prefixesDistinct; decide +kernel

theorem witness_ListSetAndFarMark :
    (Taken idle (.listSet 1023 (List.replicate 8 (255, 7))) (now (.listSet 1023 (List.replicate 8 (255, 7)))) ∧
      ∀ e ∈ List.replicate 8 (255, 7), e.1 ≤ 255 ∧ e.2 ≤ 7) ∧
    (∀ level duration, Taken beforeRoute (.farMark (digits16 [0, 4, 3, 1]) level duration)
      (now (.farMark (digits16 [0, 4, 3, 1]) level duration))) ∧
    beforeRoute.dest? 9 = some ⟨[0, 4, 3, 1], 310, 0, none, 0⟩ ∧ beforeRoute.prefixesDistinct :=
  ⟨by unfold Taken; decide +kernel, fun _ _ => ⟨rfl, rfl⟩, rfl, by unfold State.prefixesDistinct; decide +kernel⟩

/-- The part with slot 1 as given. -/
def withSlot (x : Slot) : State := { idle with rse := { idle.rse with slots := idle.rse.slots.set 1 x } }

theorem witness_OverlaySetDefinesTheSlot :
    Taken idle (.overlaySet watch120) (now (.overlaySet watch120)) ∧ watch120.slot = (1 : Fin 16).val ∧
    decodeRevert watch120.revert = some .auto ∧
    (watch120.trigger = 1 ∧ watch120.group ≤ 255 ∧ 1 ≤ watch120.level ∧ watch120.level ≤ 4) ∧
    idle.rse.slots[(1 : Fin 16)].state = .disarmed ∧ (withSlot ⟨1, 2, .manual, .manual, .armed⟩).rse.slots[(1 : Fin 16)].state ≠ .disarmed := by
  unfold Taken; decide +kernel

theorem witness_OverlayRequestsMoveTheSlot :
    (∀ c, c ∈ [Instr.overlayArm (1 : Fin 16).val, .overlayDisarm (1 : Fin 16).val, .overlayFire (1 : Fin 16).val, .overlayRevert (1 : Fin 16).val] →
      Taken idle c (now c)) ∧
    (slotAfter (.overlayArm 1) true .disarmed = some (0x21, .arm, .active) ∧
      slotAfter (.overlayFire 1) false .armed = some (0x23, .fire, .active) ∧
      slotAfter (.overlayRevert 1) false .active = some (0x24, .revert, .armed) ∧
      slotAfter (.overlayDisarm 1) false .active = some (0x22, .disarm, .disarmed) ∧
      slotAfter (.overlayArm 1) false .disarmed = some (0x21, .arm, .armed)) ∧
    slotAfter (.overlayFire 1) false .disarmed = none := by
  refine ⟨fun c hc => ?_, by decide +kernel, by decide +kernel⟩
  simp only [List.mem_cons, List.not_mem_nil, or_false] at hc
  rcases hc with rfl | rfl | rfl | rfl <;> exact ⟨rfl, rfl⟩

/-- A full queue, its reserved place empty or holding NOTICE_OVERFLOW. -/
def full (more : List Notice) : List Notice := (List.range 63).map (fun g => ⟨.groupDrained g, 1, 0⟩) ++ more

/-- A kind disabled; one that coalesces, enters, and is dropped; a kind handed to the slots, and one that is not. -/
theorem witness_EventsMoveTheWatchingSlots :
    (let s := withTraffic [] 0 none queue106
     s.lnk.phase ≠ .clearing ∧ (s.enu.config .glare).enable = false ∧ (s.enu.config .groupLevel).enable = true ∧
     (s.enu.config .groupLevel).route ≠ .trigger ∧
     s.enu.notices = [] ++ ⟨.groupLevel 120 2, 3, 125⟩ :: queue106.drop 1 ∧
     (∀ y ∈ queue106.drop 1, ¬ (y.event.kind = .groupLevel ∧ y.event.subject = some 120)) ∧
     (∀ y ∈ queue106, ¬ (y.event.kind = .groupLevel ∧ y.event.subject = some 121)) ∧ ordinaryCount queue106 < 63) ∧
    (63 ≤ ordinaryCount (full []) ∧ (∀ y ∈ full [], y.event.kind ≠ .noticeOverflow) ∧
     (∀ y ∈ full [⟨.noticeOverflow .glare, 65535, 0⟩], ¬ (y.event.kind = .groupLevel ∧ y.event.subject = some 1)) ∧
     63 ≤ ordinaryCount (full [⟨.noticeOverflow .glare, 65535, 0⟩])) ∧
    (withTraffic [] 0 none []).enu.triggers? (Event.groupLevel 120 3).kind = true ∧
    (withTraffic [] 0 none []).enu.triggers? (Event.glare 40 0).kind = false ∧
    (Trigger.groupLevel 120 3).holds? (.groupLevel 120 3) = some true ∧
    (Trigger.groupLevel 120 3).holds? (.groupLevel 120 2) = some false := by decide +kernel

/-- An unlocked account, and one locked. -/
theorem witness_TariffSetReplacesTheEntry :
    (∀ s : Sac, Taken { idle with sac := s } (.tariffSet tariff12) (now (.tariffSet tariff12))) ∧ tariff12.carrier = (11 : Fin 63).val + 1 ∧
    decodeLegDir tariff12.direction = some .outLeg ∧ tariff12.increment ∈ [1, 6, 10, 30, 60] ∧
    (idle.sac.carriers[(11 : Fin 63)].account .outLeg).locked = false ∧
    ((Sac.powerOn.carriers.set 11 { Carrier.powerOn with outAccount := { Account.powerOn with answered := 1, locked := true } })[(11 : Fin 63)].account
      .outLeg).locked = true :=
  ⟨fun _ => ⟨rfl, rfl⟩, by decide +kernel⟩

theorem witness_CalendarRequestsReplaceTheirParts :
    (let bs := [(1, 3), (2, 0), (3, 1), (4, 2), (5, 3), (6, 0), (1439, 3)]
     Taken idle (.calendarSet 1 3 bs) (now (.calendarSet 1 3 bs)) ∧ decodeDayType 1 = some .rest ∧ bs.length ≤ 7 ∧
     (bs.map Prod.fst).Pairwise (· < ·) ∧ ∀ b ∈ bs, 1 ≤ b.1 ∧ b.1 ≤ 1439 ∧ b.2 ≤ 3) ∧
    (Taken idle (.weekSet (Vector.replicate 7 1)) (now (.weekSet (Vector.replicate 7 1))) ∧
      ∀ d : Fin 7, (Vector.replicate 7 1)[d] ≤ 1) ∧
    Taken idle (.timeSet 6 863999 1) (now (.timeSet 6 863999 1)) := by
  unfold Taken; decide +kernel

theorem witness_LimitsAndBarSetTheStanding :
    (Taken idle (.carrierLimits ((62 : Fin 63).val + 1) 1099511627775 1099511627775)
        (now (.carrierLimits ((62 : Fin 63).val + 1) 1099511627775 1099511627775)) ∧
      ¬ (1099511627775 ≠ 0 ∧ 1099511627775 ≠ 0 ∧ 1099511627775 < 1099511627775)) ∧
    (Taken idle (.carrierBar ((0 : Fin 63).val + 1) 1) (now (.carrierBar ((0 : Fin 63).val + 1) 1)) ∧
      idle.sac.carriers[(0 : Fin 63)].standing ≠ .suspended) :=
  ⟨⟨⟨rfl, rfl⟩, by omega⟩, ⟨rfl, rfl⟩, by decide +kernel⟩

theorem witness_PeriodCloseClosesTheAccounts :
    (∀ i : Fin 63, Taken idle (.periodClose (i.val + 1)) (now (.periodClose (i.val + 1)))) ∧
    (let watched := { Carrier.powerOn with watch := 1, standing := .watch, outAccount := { Account.powerOn with total := 5 } }
     let s := { idle with sac := { Sac.powerOn with carriers := (Sac.powerOn.carriers.set 0 watched).set 62 watched } }
     Taken s (.periodClose 255) (now (.periodClose 255)) ∧ s.standingsDerived ∧
     s.sac.carriers[(0 : Fin 63)].standing ≠ .normal ∧ s.sac.carriers[(62 : Fin 63)].standing ≠ .normal) := by
  refine ⟨fun _ => ⟨rfl, rfl⟩, ⟨rfl, rfl⟩, ?_⟩
  unfold State.standingsDerived
  decide +kernel

theorem witness_GuardModeAndFetchTestTheLatch :
    (Taken idle (.guardMode 0 65) (now (.guardMode 0 65)) ∧ Taken idle (.guardMode 1 1024) (now (.guardMode 1 1024)) ∧
      (decodeGuardMode 0).isSome = true ∧ (decodeGuardMode 1).isSome = true) ∧
    sweeping.takes? (.recordsFetch 0) = some (now (.recordsFetch 0)) ∧
    (latchAfter false 896 896 = true ∧ latchAfter true 832 896 = false ∧ latchAfter true 833 896 = true ∧
      latchAfter false 895 896 = false) := by
  unfold Taken; decide +kernel

theorem witness_EventConfigSetsTheKinds :
    Taken idle (.eventConfig 0 0x2002 255 [(1, 7, 2), (13, 0, 0)]) (now (.eventConfig 0 0x2002 255 [(1, 7, 2), (13, 0, 0)])) ∧
    decodeMaskMode 0 = some .merge ∧ ([(1, 7, 2), (13, 0, 0)].map Prod.fst).Nodup ∧ decodeKind 1 = some .groupLevel ∧
    decodeKind 13 = some .noticeOverflow ∧ decodeRoute 2 = some .both ∧ decodeRoute 0 = some .notice ∧
    Kind.groupLevel.triggerCapable = true := by
  unfold Taken; decide +kernel

theorem witness_QueryChangesOnlyTallies :
    (∀ t n m c, beforeRoute.takes? (.query t n m c) = some (now (.query t n m c))) ∧
    beforeRoute.circuit? 40 0 = some free ∧ sweeping.takes? (.query 3 4095 0 1) = some (now (.query 3 4095 0 1)) :=
  ⟨fun _ _ _ _ => rfl, by decide +kernel, by decide +kernel⟩

/-- A sweep that has visited every context. -/
theorem witness_TrafficRestartBeginsAndEnds :
    Taken afterRoute .trafficRestart (now .trafficRestart) ∧
    (let s := { idle with rse := { idle.rse with sweep := some ⟨7, 5, 4096, 1, 2⟩ } }
     s.rse.sweep = some ⟨7, 5, 4096, 1, 2⟩ ∧ 4096 ≤ 4096 ∧ s.lnk.handed = none ∧ s.lnk.phase = .running) := by
  unfold Taken; decide +kernel

/-- The sweep at context 17, which holds a call; and at a FREE one. -/
theorem witness_SweepVisitFreesTheContext :
    sweeping.rse.sweep = some ⟨7, 5, 17, 0, 0⟩ ∧ sweeping.context? 17 = some pendingCall ∧ sweeping.circuit? 40 0 = some (seized 17) ∧
    (seized 17).state.isBusy = true ∧ sweeping.context? 4095 = none ∧ pendingCall.state ≠ .answered ∧
    (let s := { withCall billedCall [outBusy 17] with rse := { rse310 [(17, billedCall)] with sweep := some ⟨7, 5, 17, 0, 0⟩ } }
     s.context? 17 = some billedCall ∧ billedCall.state = .answered ∧ billedCall.answerStamp = some 0 ∧
     billedCall.carrierOn .inLeg = some 6 ∧ billedCall.carrierOn .outLeg = some 11 ∧
     s.group? 8 = some (group 0 .incoming 0 0 0 [held 17]) ∧ (held 17).state.isBusy = true ∧
     s.group? 40 = some (group 2048 .both 0 300 700 [outBusy 17]) ∧ (outBusy 17).state.isBusy = true) := by decide +kernel

theorem witness_TimersExpire :
    (let r := group 2048 .both 0 300 700 [⟨.guard, false, false, none, some 0, none⟩]
     (withGroup r).group? 40 = some r ∧ r.members[0]? = some ⟨.guard, false, false, none, some 0, none⟩) ∧
    (let c := { seized 17 with seizeTimer := some 0 }
     let s := withCall pendingCall [c]
     s.group? 40 = some (group 2048 .both 0 300 700 [c]) ∧ c.state = .outPending ∧ c.context = some 17 ∧
     s.context? 17 = some pendingCall ∧ pendingCall.outLeg = some ⟨40, 0, 0, 1, 0, false⟩ ∧
     pendingCall.progress = some ⟨3, 1, [(40, 0)], 0⟩) ∧
    (let r := { group 2048 .both 0 300 700 [free] with sampleTimer := some 0 }
     (withGroup r).group? 40 = some r ∧ r.sampleTimer = some 0) ∧
    (let d : Dest := ⟨[0, 4, 3, 1], 310, 2, some 0, 3⟩
     ({ idle with rse := { idle.rse with dests := [(4095, d)] } } : State).dest? 4095 = some d ∧ d.markTimer = some 0) := by
  decide +kernel

theorem witness_ClockStepsAdvance :
    ({ clk65 with ds := 863999, midnightDue := true } : Clk).midnightDue = true ∧
    (idle.lnk.phase ≠ .inReset ∧ idle.clk.midnightDue = false) ∧ ({ clk65 with ds := 863999 } : Clk).midnightDue = false := by
  decide +kernel

end Sys2Proof.Tests
end

/-! ## Trunk groups and the circuit table: the order of a hunt (R10, R11), the circuit requests (R18, R19), and refusals -/

namespace Sys2Proof.Proofs.TrunkGroups

open Sys2Proof.Machine

/-! ### The order of a hunt -/

section Hunt
variable {r : Group}

theorem huntSequence_both (h : r.direction = .both) :
    r.huntSequence = if r.farKey < r.localKey then (List.range r.size).reverse else List.range r.size := by
  simp [Group.huntSequence, h]

theorem huntSequence_ascending (hd : r.direction ≠ .both) (ho : r.huntOrder = .ascending) :
    r.huntSequence = List.range r.size := by
  cases h : r.direction <;> simp_all [Group.huntSequence]

theorem huntSequence_descending (hd : r.direction ≠ .both) (ho : r.huntOrder = .descending) :
    r.huntSequence = (List.range r.size).reverse := by
  cases h : r.direction <;> simp_all [Group.huntSequence]

/-- A ROTATING hunt is the ascending one rotated to begin at the rotate pointer. -/
theorem huntSequence_rotating (hd : r.direction ≠ .both) (ho : r.huntOrder = .rotating) (hr : r.rotate ≤ r.size) :
    r.huntSequence = (List.range r.size).rotate r.rotate := by
  rw [List.rotate_eq_drop_append_take (by simpa using hr)]
  cases h : r.direction <;> simp_all [Group.huntSequence]

/-- Each member is examined once. -/
theorem huntSequence_perm (hr : r.rotate ≤ r.size) : r.huntSequence.Perm (List.range r.size) := by
  by_cases hd : r.direction = .both
  · rw [huntSequence_both hd]
    split
    · exact List.reverse_perm _
    · exact List.Perm.refl _
  · cases ho : r.huntOrder with
    | ascending => rw [huntSequence_ascending hd ho]
    | descending => rw [huntSequence_descending hd ho]; exact List.reverse_perm _
    | rotating => rw [huntSequence_rotating hd ho hr]; exact List.rotate_perm _ _

end Hunt

/-- Settles O28, by the direction and the hunt order of the group. -/
theorem huntOrderFollowsTheGroup : Obligations.HuntOrderFollowsTheGroup := by
  intro r
  refine ⟨fun hd ho => ?ascending, fun hd ho => ?descending, fun hd ho hr j hj => ?rotating, fun hd hk => ?farLow,
    fun hd hk => ?localLow, huntSequence_perm⟩
  case ascending => exact huntSequence_ascending (by simp [hd]) ho
  case descending => exact huntSequence_descending (by simp [hd]) ho
  case rotating =>
    rw [huntSequence_rotating (by simp [hd]) ho hr.le, List.getElem?_rotate (by simpa using hj), List.length_range,
      Nat.add_comm j, List.getElem?_range (Nat.mod_lt _ (by omega))]
  case farLow => rw [huntSequence_both hd, if_pos hk]
  case localLow => rw [huntSequence_both hd, if_neg (by omega)]

/-! ### Changes of one group's record -/

/-- A defined group that is changed is read back changed. -/
theorem changeGroup_group?_same {s : State} {g : Nat} {r : Group} (hr : s.group? g = some r) (f : Group → Group) :
    (s.changeGroup g f).group? g = some (f r) := by
  unfold State.changeGroup
  rw [hr]
  exact setGroup_group?_same s g _ (lt_of_group? hr)

theorem changeGroup_otherGroups (s : State) (g : Nat) (f : Group → Group) : OtherGroups g s (s.changeGroup g f) := by
  obtain ⟨_, _, _, hothers⟩ := GroupOnly.changeGroup g s f
  exact hothers

/-- A change of a group's record and the reply to it stay inside CTB and LNK. -/
theorem changeGroup_place_sameOutsideCtb (s : State) (g : Nat) (f : Group → Group) (k : Byte) (tag : BitVec 16) (a : Answer) :
    SameOutsideCtb s ((s.changeGroup g f).place k tag a) := by
  simp [SameOutsideCtb]

/-! ### CIRCUIT_BLOCK and CIRCUIT_UNBLOCK -/

/-- CIRCUIT_BLOCK on a circuit: an IDLE or GUARD one is BLOCKED at once, a busy one is marked (R18). -/
theorem circuit_block_eq (c : Circuit) :
    c.block = if c.state = .idle ∨ c.state = .guard then ⟨.blocked, false, false, none, none, none⟩
      else if c.state = .blocked then c else { c with blockPending := true } := by
  unfold Circuit.block
  cases c.state <;> rfl

/-- CIRCUIT_UNBLOCK on a circuit: a BLOCKED one is IDLE at once, a busy one loses its mark (R19). -/
theorem circuit_unblock_eq (c : Circuit) :
    c.unblock = if c.state = .blocked then ⟨.idle, false, false, none, none, none⟩
      else if c.state = .idle ∨ c.state = .guard then c else { c with blockPending := false } := by
  unfold Circuit.unblock
  cases c.state <;> rfl

/-- A circuit request on a member of a defined group is accepted and changes that circuit (R17). -/
theorem onCircuit_member {s : State} {g m : Nat} {r : Group} {c : Circuit} (hr : s.group? g = some r)
    (hc : r.members[m]? = some c) (f : Circuit → Circuit) :
    onCircuit f g m s = (.accepted .plain, s.setCircuit g m (f c)) := by
  simp [onCircuit, hr, hc]

/-- A circuit request that is taken: its reply, the circuit changed by `f`, and nothing else. -/
theorem serve_onCircuit {s : State} {i : Instr} {h : Handed} (ht : Taken s i h) {g m : Nat} {r : Group} {c : Circuit}
    (hr : s.group? g = some r) (hc : r.members[m]? = some c) (k : Byte) (f : Circuit → Circuit) :
    let t := s.serve i k false fun _ => onCircuit f g m
    t.lnk = s.lnk.answered k h.tag (.accepted .plain) ∧
      t.group? g = some { r with members := r.members.set m (f c) } ∧ OtherGroups g s t ∧ SameOutsideCtb s t := by
  have hserve : (s.serve i k false fun _ => onCircuit f g m) =
      ((s.withHanded h).setCircuit g m (f c)).place k h.tag (.accepted .plain) := by
    rw [serve_taken ht, onCircuit_member (s := s.withHanded h) hr hc]
  rw [hserve]
  refine ⟨?reply, ?circuit, ?others, changeGroup_place_sameOutsideCtb (s.withHanded h) g _ k h.tag _⟩
  case reply => simp; rfl
  case circuit => exact changeGroup_group?_same (s := s.withHanded h) hr _
  case others => exact changeGroup_otherGroups (s.withHanded h) g _

/-- Settles O43, by the circuit's state. -/
theorem circuitBlockAndUnblock : Obligations.CircuitBlockAndUnblock := by
  intro s h g m r c hr hc
  rw [← circuit_block_eq, ← circuit_unblock_eq]
  exact ⟨fun ht => ⟨_, rfl, serve_onCircuit ht hr hc 0x13 Circuit.block⟩,
    fun ht => ⟨_, rfl, serve_onCircuit ht hr hc 0x14 Circuit.unblock⟩⟩

/-! ### Refusals -/

/-- The answers that refuse a request of kind `k`: a status of R198, BAD_FIELD, or NO_ROUTE at FAR_MARK and DEST_CLEAR. -/
def Refuses (k : Byte) (a : Answer) : Prop :=
  (∃ d, a = .denied d) ∨ (∃ f e p, a = .badField f e p) ∨ (k = 0x08 ∨ k = 0x19) ∧ a = .selection none .noRoute

/-- A block's act on `s`, when it refuses, leaves `s` as it is, and does not refuse for glare. -/
def Harmless (k : Byte) (s : State) (x : Answer × State) : Prop :=
  Refuses k x.1 → x.1 ≠ .denied .glareRejected ∧ x.2 = s

section Harmless
variable {k : Byte} {s t : State}

/-- An act that changes nothing is harmless, GLARE_REJECTED apart. -/
theorem harmless_unchanged {a : Answer} (h : a ≠ .denied .glareRejected) : Harmless k s (a, s) := fun _ => ⟨h, rfl⟩

@[simp] theorem harmless_badField (i : Nat) : Harmless k s (badField i, s) := harmless_unchanged (by simp [badField])

@[simp] theorem harmless_denied {d : Deny} : Harmless k s (.denied d, s) ↔ d ≠ .glareRejected := by
  simp [Harmless, Refuses]

/-- An accepted request is not refused, whatever it does. -/
@[simp] theorem harmless_accepted (f : Accepted) : Harmless k s (.accepted f, t) := by
  simp [Harmless, Refuses]

/-- The outcome of a selection refuses nothing, whatever it does. -/
theorem harmless_selection (h8 : k ≠ 0x08) (h19 : k ≠ 0x19) (c : Option HaltCause) (o : Selection) :
    Harmless k s (.selection c o, t) := by
  rintro (⟨_, hd⟩ | ⟨_, _, _, hf⟩ | ⟨hk, -⟩)
  · cases hd
  · cases hf
  · exact absurd hk (not_or.2 ⟨h8, h19⟩)

end Harmless

/-! ### The answers of the field checks -/

/-- The answer is BAD_FIELD. -/
def IsBadField (a : Answer) : Prop := ∃ f e p, a = .badField f e p

theorem isBadField_badField (i : Nat) : IsBadField (badField i) := ⟨_, _, _, rfl⟩

theorem IsBadField.harmless {a : Answer} (h : IsBadField a) (k : Byte) (s : State) : Harmless k s (a, s) := by
  obtain ⟨f, e, p, rfl⟩ := h
  exact harmless_unchanged (by simp)

theorem firstBad_isBadField {l : List (Bool × Answer)} {a : Answer} (hl : ∀ x ∈ l, IsBadField x.2)
    (h : firstBad l = some a) : IsBadField a := by
  induction l with
  | nil => cases h
  | cons x l ih =>
    unfold firstBad at h
    split at h
    · cases h; exact hl x List.mem_cons_self
    · exact ih (fun y hy => hl y (List.mem_cons_of_mem x hy)) h

theorem badGroupFields_isBadField {f : GroupFields} {a : Answer} (h : badGroupFields f = some a) : IsBadField a :=
  firstBad_isBadField (by simp [isBadField_badField]) h

theorem badRouteEntry_isBadField {i : Nat} {l : List (Nat × Nat)} {a : Answer} (h : badRouteEntry i l = some a) :
    IsBadField a := by
  induction l generalizing i with
  | nil => cases h
  | cons e l ih =>
    unfold badRouteEntry at h
    split_ifs at h
    · cases h; exact ⟨_, _, _, rfl⟩
    · cases h; exact ⟨_, _, _, rfl⟩
    · exact ih h

theorem badBoundary_isBadField {i before : Nat} {l : List (Nat × Nat)} {a : Answer} (h : badBoundary i before l = some a) :
    IsBadField a := by
  induction l generalizing i before with
  | nil => cases h
  | cons e l ih =>
    unfold badBoundary at h
    split_ifs at h
    · cases h; exact ⟨_, _, _, rfl⟩
    · cases h; exact ⟨_, _, _, rfl⟩
    · exact ih h

theorem badKindEntry_isBadField {i : Nat} {seen : List Nat} {l : List (Nat × Nat × Nat)} {a : Answer}
    (h : badKindEntry i seen l = some a) : IsBadField a := by
  induction l generalizing i seen with
  | nil => cases h
  | cons e l ih =>
    unfold badKindEntry at h
    split at h
    · cases h; exact ⟨_, _, _, rfl⟩
    split at h
    · cases h; exact ⟨_, _, _, rfl⟩
    split at h
    · cases h; exact ⟨_, _, _, rfl⟩
    split_ifs at h
    · cases h; exact ⟨_, _, _, rfl⟩
    · cases h; exact ⟨_, _, _, rfl⟩
    · exact ih h

theorem badDay_isBadField {days : List Nat} {a : Answer} (h : badDay days = some a) : IsBadField a := by
  obtain ⟨i, _, rfl⟩ := Option.map_eq_some_iff.1 h
  exact isBadField_badField i

theorem badCircuit_isBadField {s : State} {gf mf g m : Nat} {a : Answer} (h : badCircuit s gf mf g m = some a) :
    IsBadField a := by
  unfold badCircuit at h
  split at h
  · cases h; exact isBadField_badField gf
  · split_ifs at h
    cases h; exact isBadField_badField mf

theorem readTrigger_isBadField {f : OverlayFields} {a : Answer} (h : readTrigger f = some (.inl a)) : IsBadField a := by
  unfold readTrigger at h
  split at h
  · cases h
  · split at h
    · rename_i b hb
      cases h
      exact firstBad_isBadField (by simp [isBadField_badField]) hb
    · cases h
  · split_ifs at h
    · cases h; exact isBadField_badField 6
    · split at h
      · cases h
      · cases h
      · cases h; exact isBadField_badField 7
      · cases h; exact isBadField_badField 7
  · cases h
  · cases h

/-! ### The call requests -/

section Calls
variable (s : State)

theorem yieldGlare_harmless (g m : Nat) (r : Group) (c : Circuit) (q : BitVec 32) (p : Priority) :
    Harmless 0x01 s (s.yieldGlare g m r c q p) := by
  unfold State.yieldGlare
  split
  · simp
  · split_ifs <;> simp

/-- SEIZE_IN is harmless, or it rejects glare and counts it at a defined group (R23, R24). -/
theorem seizeIn_harmless_or_rejects (g m : Nat) (q : BitVec 32) (p : Nat) :
    Harmless 0x01 s (seizeIn g m q p s) ∨
      ∃ r, s.group? g = some r ∧ seizeIn g m q p s = (.denied .glareRejected, s.countTally g Tallies.won) := by
  unfold seizeIn
  split
  · simp
  rename_i r hr
  split
  · simp
  split
  · simp
  split
  · simp
  split
  · simp
  split
  · simp
  · simp
  · simp
  · split
    · exact .inr ⟨r, hr, rfl⟩
    · exact .inl (yieldGlare_harmless s g m r _ q _)
  -- An IDLE or GUARD circuit is seized when a context is FREE and record room exists.
  all_goals
    split
    · simp
    · split <;> simp

theorem route_harmless (n budget : Nat) (called : DigitField) : Harmless 0x02 s (route n budget called s) := by
  unfold route
  split_ifs
  · simp
  split
  · simp
  split
  · simp
  split_ifs
  · simp
  · exact harmless_selection (by decide) (by decide) _ _

theorem continueCall_harmless (n : Nat) : Harmless 0x03 s (continueCall n s) := by
  unfold continueCall
  split_ifs
  · simp
  split
  · simp
  split_ifs
  · simp
  · exact harmless_selection (by decide) (by decide) _ _

/-- A report's refusal is never GLARE_REJECTED (R36, R37). -/
theorem reportOn_refusal {n g m : Nat} {d : Deny} (h : reportOn n g m s = .inl d) : d ≠ .glareRejected := by
  unfold reportOn at h
  split at h
  · cases h; decide
  · split at h
    · cases h; decide
    · split_ifs at h; cases h; decide
    · split_ifs at h <;> (cases h; decide)
    · split_ifs at h <;> (cases h; decide)
    · cases h; decide

/-- A report that finds its attempt finds it in the context named (R36, R37). -/
theorem reportOn_context {n g m : Nat} {c : Context} {o : OutLeg} (h : reportOn n g m s = .inr (c, o)) :
    s.context? n = some c := by
  unfold reportOn at h
  split at h
  · cases h
  · rename_i d hd
    split at h
    · cases h
    · split_ifs at h; cases h; exact hd
    · split_ifs at h
    · split_ifs at h
    · cases h

theorem confirm_harmless (n g m : Nat) : Harmless 0x04 s (confirm n g m s) := by
  unfold confirm
  split_ifs
  · simp
  split
  · rename_i a ha; exact (badCircuit_isBadField ha).harmless _ _
  split
  · rename_i d hd; exact harmless_denied.2 (reportOn_refusal s hd)
  · simp

theorem changeContext_context?_same {n : Nat} {c : Context} (h : s.context? n = some c) (f : Context → Context) :
    (s.changeContext n f).context? n = some (f c) := by
  simp [State.changeContext, h]

theorem groupOnly_contexts {s t : State} {g : Nat} (h : GroupOnly g s t) : t.rse.contexts = s.rse.contexts := by
  obtain ⟨_, ⟨_, _, hcontexts, _⟩, _, _⟩ := h
  exact hcontexts

theorem failCircuit_contexts (cause : FailCause) (g m : Nat) : (s.failCircuit cause g m).rse.contexts = s.rse.contexts := by
  cases cause with
  | circuitFault => exact groupOnly_contexts (faultRelease_groupOnly g m s)
  | farCongestion => exact groupOnly_contexts (ordinaryRelease_groupOnly g m s)
  | farRefused => exact groupOnly_contexts (ordinaryRelease_groupOnly g m s)

/-- The context of a failed attempt still holds its call, so the continue flag's CONTINUE finds it (R37, R38). -/
theorem failAttempt_context?_ne_none {n : Nat} {c : Context} (h : s.context? n = some c) (cause : FailCause) (o : OutLeg) :
    (s.failAttempt cause n o).context? n ≠ none := by
  have hkept : ((s.failCircuit cause o.group o.member).settleGuard o.guarded).context? n = some c := by
    rw [context?_congr (s := s) (by rw [State.settleGuard_rse, failCircuit_contexts]), h]
  rw [State.failAttempt, changeContext_context?_same _ hkept]
  simp

theorem failCall_harmless (n g m cause again : Nat) : Harmless 0x05 s (failCall n g m cause again s) := by
  unfold failCall
  split_ifs
  · simp
  split
  · rename_i a ha; exact (badCircuit_isBadField ha).harmless _ _
  · simp
  · simp
  split
  · rename_i d hd; exact harmless_denied.2 (reportOn_refusal s hd)
  rename_i c o ho
  dsimp only
  split_ifs
  · split
    · exact harmless_selection (by decide) (by decide) _ _
    · rename_i hnone
      exact absurd hnone (failAttempt_context?_ne_none s (reportOn_context s ho) _ o)
  · simp

theorem answer_harmless (n : Nat) (arrival : Count) : Harmless 0x06 s (answer n arrival s) := by
  unfold answer
  split_ifs
  · simp
  split
  · simp
  · split_ifs <;> simp

theorem release_harmless (n : Nat) (arrival : Count) : Harmless 0x07 s (release n arrival s) := by
  unfold release
  split_ifs
  · simp
  split <;> simp

end Calls

/-! ### The requests on groups and routing tables -/

section Tables
variable (s : State)

theorem groupDefine_harmless (f : GroupFields) : Harmless 0x10 s (groupDefine f s) := by
  unfold groupDefine
  split
  · rename_i a ha; exact (badGroupFields_isBadField ha).harmless _ _
  split_ifs
  · split
    · simp
    · split_ifs <;> simp
  all_goals simp

theorem groupBlock_harmless (g : Nat) : Harmless 0x11 s (groupBlock g s) := by
  unfold groupBlock
  split <;> simp

theorem groupUnblock_harmless (g : Nat) : Harmless 0x12 s (groupUnblock g s) := by
  unfold groupUnblock
  split <;> simp

theorem onCircuit_harmless (k : Byte) (f : Circuit → Circuit) (g m : Nat) : Harmless k s (onCircuit f g m s) := by
  unfold onCircuit
  split
  · simp
  · split <;> simp

theorem destSet_harmless (digits : DigitField) (list : Nat) : Harmless 0x18 s (destSet digits list s) := by
  unfold destSet
  split
  · simp
  split_ifs
  · simp
  split
  · simp
  · split <;> simp

theorem destClear_harmless (digits : DigitField) : Harmless 0x19 s (destClear digits s) := by
  unfold destClear
  split
  · simp
  split
  · simp
  · exact harmless_unchanged (by simp)

theorem listSet_harmless (list : Nat) (entries : List (Nat × Nat)) : Harmless 0x1A s (listSet list entries s) := by
  unfold listSet
  split
  · rename_i a ha; exact (firstBad_isBadField (by simp [isBadField_badField]) ha).harmless _ _
  split
  · rename_i a ha; exact (badRouteEntry_isBadField ha).harmless _ _
  · simp

theorem farMark_harmless (digits : DigitField) (level duration : Nat) : Harmless 0x08 s (farMark digits level duration s) := by
  unfold farMark
  split
  · simp
  split_ifs
  · simp
  split
  · exact harmless_unchanged (by simp)
  · simp

theorem overlaySet_harmless (f : OverlayFields) : Harmless 0x20 s (overlaySet f s) := by
  unfold overlaySet
  split
  · split
    · rename_i a ha; exact (firstBad_isBadField (by simp [isBadField_badField]) ha).harmless _ _
    split
    · split <;> simp
    · rename_i a _ ha; exact (readTrigger_isBadField ha).harmless _ _
    · simp
    · simp
  · simp

theorem onSlot_harmless (k : Byte) (n : Nat) (f : Fin 16 → Slot → State → Option State) : Harmless k s (onSlot n f s) := by
  unfold onSlot
  split_ifs
  · split <;> simp
  · simp

end Tables

/-! ### The requests on tariffs, calendar, accounts and events, and QUERY -/

section Services
variable (s : State)

theorem tariffSet_harmless (f : TariffFields) : Harmless 0x28 s (tariffSet f s) := by
  unfold tariffSet
  split
  · simp
  · simp
  · split_ifs <;> simp

theorem calendarSet_harmless (dayType start : Nat) (bs : List (Nat × Nat)) :
    Harmless 0x29 s (calendarSet dayType start bs s) := by
  unfold calendarSet
  split
  · simp
  split
  · rename_i a ha; exact (firstBad_isBadField (by simp [isBadField_badField]) ha).harmless _ _
  split
  · rename_i a ha; exact (badBoundary_isBadField ha).harmless _ _
  · simp

theorem weekSet_harmless (days : Vector Nat 7) : Harmless 0x2A s (weekSet days s) := by
  unfold weekSet
  split
  · rename_i a ha; exact (badDay_isBadField ha).harmless _ _
  · simp

theorem timeSet_harmless (weekday ds rest : Nat) : Harmless 0x2B s (timeSet weekday ds rest s) := by
  unfold timeSet
  split
  · rename_i a ha; exact (firstBad_isBadField (by simp [isBadField_badField]) ha).harmless _ _
  · simp

theorem carrierLimits_harmless (carrier watch cap : Nat) : Harmless 0x30 s (carrierLimits carrier watch cap s) := by
  unfold carrierLimits
  split
  · simp
  split
  · rename_i a ha; exact (firstBad_isBadField (by simp [isBadField_badField]) ha).harmless _ _
  · simp [changeLimits]

theorem carrierBar_harmless (carrier flag : Nat) : Harmless 0x31 s (carrierBar carrier flag s) := by
  unfold carrierBar
  split <;> simp [changeLimits]

theorem guardMode_harmless (mode threshold : Nat) : Harmless 0x32 s (guardMode mode threshold s) := by
  unfold guardMode
  split
  · simp
  · split_ifs <;> simp

theorem eventConfig_harmless (mode : Nat) (mask : BitVec 16) (elevated : Nat) (entries : List (Nat × Nat × Nat)) :
    Harmless 0x38 s (eventConfig mode mask elevated entries s) := by
  unfold eventConfig
  split
  · simp
  split_ifs
  · simp
  split
  · rename_i a _ ha; exact (badKindEntry_isBadField ha).harmless _ _
  · simp
  · simp

theorem periodClose_harmless (carrier : Nat) : Harmless 0x40 s (periodClose carrier s) := by
  unfold periodClose
  split_ifs
  · simp [closeAll]
  · split <;> simp

theorem recordsFetch_harmless (count : Nat) : Harmless 0x41 s (recordsFetch count s) := by
  simp [recordsFetch]

theorem queryCircuit_ne_glareRejected (g m : Nat) : queryCircuit g m s ≠ .denied .glareRejected := by
  unfold queryCircuit
  split
  · simp [badField]
  · split <;> simp [badField, contents]

theorem query_harmless (target number member clear : Nat) : Harmless 0x48 s (query target number member clear s) := by
  unfold query
  split
  · simp
  · unfold queryPart
    split <;> simp [contents]
  · unfold queryGroup
    split_ifs
    · simp
    · split <;> simp [contents]
  · exact harmless_unchanged (queryCircuit_ne_glareRejected s number member)
  · split_ifs <;> simp [contents]
  · split <;> simp [contents]
  · split_ifs <;> simp [contents]
  · split_ifs <;> simp [contents]

end Services

/-! ### Every request -/

/-- Every request but SEIZE_IN and TRAFFIC_RESTART is served by an act that is harmless in every state. -/
theorem exec_served_harmless {c : Instr} {k : Byte} (hk : requestCode c = some k) (hseize : ∀ g m q p, c ≠ .seizeIn g m q p)
    (hrestart : c ≠ .trafficRestart) :
    ∃ b act, (∀ s, exec c s = .next (s.serve c k b act)) ∧ ∀ n s, Harmless k s (act n s) := by
  cases c
  case seizeIn g m q p => exact absurd rfl (hseize g m q p)
  case trafficRestart => exact absurd rfl hrestart
  all_goals cases hk
  case route => exact ⟨_, _, fun _ => rfl, fun _ s => route_harmless s _ _ _⟩
  case continueCall => exact ⟨_, _, fun _ => rfl, fun _ s => continueCall_harmless s _⟩
  case confirm => exact ⟨_, _, fun _ => rfl, fun _ s => confirm_harmless s _ _ _⟩
  case failCall => exact ⟨_, _, fun _ => rfl, fun _ s => failCall_harmless s _ _ _ _ _⟩
  case answer => exact ⟨_, _, fun _ => rfl, fun n s => answer_harmless s _ n⟩
  case release => exact ⟨_, _, fun _ => rfl, fun n s => release_harmless s _ n⟩
  case farMark => exact ⟨_, _, fun _ => rfl, fun _ s => farMark_harmless s _ _ _⟩
  case groupDefine => exact ⟨_, _, fun _ => rfl, fun _ s => groupDefine_harmless s _⟩
  case groupBlock => exact ⟨_, _, fun _ => rfl, fun _ s => groupBlock_harmless s _⟩
  case groupUnblock => exact ⟨_, _, fun _ => rfl, fun _ s => groupUnblock_harmless s _⟩
  case circuitBlock => exact ⟨_, _, fun _ => rfl, fun _ s => onCircuit_harmless s _ _ _ _⟩
  case circuitUnblock => exact ⟨_, _, fun _ => rfl, fun _ s => onCircuit_harmless s _ _ _ _⟩
  case destSet => exact ⟨_, _, fun _ => rfl, fun _ s => destSet_harmless s _ _⟩
  case destClear => exact ⟨_, _, fun _ => rfl, fun _ s => destClear_harmless s _⟩
  case listSet => exact ⟨_, _, fun _ => rfl, fun _ s => listSet_harmless s _ _⟩
  case overlaySet => exact ⟨_, _, fun _ => rfl, fun _ s => overlaySet_harmless s _⟩
  case overlayArm => exact ⟨_, _, fun _ => rfl, fun _ s => onSlot_harmless s _ _ _⟩
  case overlayDisarm => exact ⟨_, _, fun _ => rfl, fun _ s => onSlot_harmless s _ _ _⟩
  case overlayFire => exact ⟨_, _, fun _ => rfl, fun _ s => onSlot_harmless s _ _ _⟩
  case overlayRevert => exact ⟨_, _, fun _ => rfl, fun _ s => onSlot_harmless s _ _ _⟩
  case tariffSet => exact ⟨_, _, fun _ => rfl, fun _ s => tariffSet_harmless s _⟩
  case calendarSet => exact ⟨_, _, fun _ => rfl, fun _ s => calendarSet_harmless s _ _ _⟩
  case weekSet => exact ⟨_, _, fun _ => rfl, fun _ s => weekSet_harmless s _⟩
  case timeSet => exact ⟨_, _, fun _ => rfl, fun _ s => timeSet_harmless s _ _ _⟩
  case carrierLimits => exact ⟨_, _, fun _ => rfl, fun _ s => carrierLimits_harmless s _ _ _⟩
  case carrierBar => exact ⟨_, _, fun _ => rfl, fun _ s => carrierBar_harmless s _ _⟩
  case guardMode => exact ⟨_, _, fun _ => rfl, fun _ s => guardMode_harmless s _ _⟩
  case eventConfig => exact ⟨_, _, fun _ => rfl, fun _ s => eventConfig_harmless s _ _ _ _⟩
  case periodClose => exact ⟨_, _, fun _ => rfl, fun _ s => periodClose_harmless s _⟩
  case recordsFetch => exact ⟨_, _, fun _ => rfl, fun _ s => recordsFetch_harmless s _⟩
  case query => exact ⟨_, _, fun _ => rfl, fun _ s => query_harmless s _ _ _ _⟩

/-- What a request that is taken comes to: refused in a sweep with RESTARTING, or its block's act with its reply placed. -/
theorem serve_cases {s : State} {c : Instr} {h : Handed} (ht : s.takes? c = some h) (k : Byte) (b : Bool)
    (act : Count → State → Answer × State) :
    s.serve c k b act = s.place k h.tag (.denied .restarting) ∨
      s.serve c k b act =
        (act h.arrival (s.withHanded h)).2.place k h.tag (act h.arrival (s.withHanded h)).1 := by
  unfold State.serve
  rw [ht]
  dsimp only
  split_ifs
  · exact .inl rfl
  · exact .inr rfl

/-- The last reply of a state in which a reply was just placed is that reply. -/
theorem answer_of_place {s : State} {k code : Byte} {tag tag' : BitVec 16} {a b : Answer} {l : List Reply}
    (h : (s.place k tag a).lnk.replies = l ++ [⟨code, tag', b⟩]) : a = b := by
  rw [State.place_replies] at h
  obtain ⟨_, hlast⟩ := List.append_inj' h rfl
  cases hlast
  rfl

/-- A refusal by a harmless act changes nothing but its reply. -/
theorem serve_refused {s : State} {c : Instr} {h : Handed} (ht : s.takes? c = some h) {k code : Byte} {b : Bool}
    {act : Count → State → Answer × State} (hact : Harmless k (s.withHanded h) (act h.arrival (s.withHanded h)))
    {a : Answer} {tag : BitVec 16} {l : List Reply} (ha : Refuses k a)
    (hreply : (s.serve c k b act).lnk.replies = l ++ [⟨code, tag, a⟩]) :
    a ≠ .denied .glareRejected ∧ s.serve c k b act = s.place k h.tag a := by
  rcases serve_cases ht k b act with hserve | hserve
  · rw [hserve] at hreply ⊢
    cases answer_of_place hreply
    exact ⟨by simp, rfl⟩
  · rw [hserve] at hreply ⊢
    cases answer_of_place hreply
    obtain ⟨hglare, hsame⟩ := hact ha
    exact ⟨hglare, by rw [hsame, State.withHanded_place]⟩

/-- A SEIZE_IN that rejects glare: its reply, one more in the glare won tally, and nothing else (R24). -/
theorem glareRejected_effect {s : State} {h : Handed} {g : Nat} {r : Group} (hr : s.group? g = some r) (k : Byte) (tag : BitVec 16)
    (a : Answer) :
    let t := ((s.withHanded h).countTally g Tallies.won).place k tag a
    t.lnk = s.lnk.answered k tag a ∧
      t.group? g = some { r with tallies := { r.tallies with glareWon := min (r.tallies.glareWon + 1) 4294967295 } } ∧
      OtherGroups g s t ∧ SameOutsideCtb s t := by
  refine ⟨?reply, ?tally, ?others, changeGroup_place_sameOutsideCtb (s.withHanded h) g _ k tag a⟩
  case reply => simp; rfl
  case tally => exact changeGroup_group?_same (s := s.withHanded h) hr _
  case others => exact changeGroup_otherGroups (s.withHanded h) g _

/-- A refused SEIZE_IN changes nothing but its reply, or rejects glare and counts it (R23, R24, R46). -/
theorem seizeIn_refused {s : State} {h : Handed} {g m : Nat} {q : BitVec 32} {p : Nat}
    (ht : s.takes? (.seizeIn g m q p) = some h) {code : Byte} {tag : BitVec 16} {l : List Reply} {a : Answer}
    (ha : Refuses 0x01 a)
    (hreply : (s.serve (.seizeIn g m q p) 0x01 false fun _ => seizeIn g m q p).lnk.replies = l ++ [⟨code, tag, a⟩]) :
    (a ≠ .denied .glareRejected ∧
        (s.serve (.seizeIn g m q p) 0x01 false fun _ => seizeIn g m q p) = s.place 0x01 h.tag a) ∨
      (a = .denied .glareRejected ∧ ∃ r, s.group? g = some r ∧
        (s.serve (.seizeIn g m q p) 0x01 false fun _ => seizeIn g m q p) =
          ((s.withHanded h).countTally g Tallies.won).place 0x01 h.tag a) := by
  rcases seizeIn_harmless_or_rejects (s.withHanded h) g m q p with hact | ⟨r, hr, hact⟩
  · exact .inl (serve_refused ht hact ha hreply)
  rcases serve_cases ht 0x01 false (fun _ => seizeIn g m q p) with hserve | hserve
  · rw [hserve] at hreply ⊢
    cases answer_of_place hreply
    exact .inl ⟨by simp, rfl⟩
  · rw [hact] at hserve
    rw [hserve] at hreply ⊢
    cases answer_of_place hreply
    exact .inr ⟨rfl, r, hr, rfl⟩

/-- TRAFFIC_RESTART is answered at once only when a sweep runs, and is then refused with its reply alone (R46). -/
theorem trafficRestart_answered {s t : State} {h : Handed} (ht : s.takes? .trafficRestart = some h)
    (hexec : exec .trafficRestart s = .next t) {code : Byte} {tag : BitVec 16} {a : Answer}
    (hreply : t.lnk.replies = s.lnk.replies ++ [⟨code, tag, a⟩]) :
    a = .denied .restarting ∧ t = s.place 0x49 h.tag a := by
  simp only [exec, execTrafficRestart, ht] at hexec
  split at hexec <;> cases hexec
  · cases answer_of_place hreply
    exact ⟨rfl, rfl⟩
  · exact absurd hreply (by simp [State.startSweep])

/-- A refused request changes nothing but its reply, or is a SEIZE_IN that rejects glare and counts it: by the request, which is
SEIZE_IN, TRAFFIC_RESTART, or one served by a harmless act. -/
theorem refused_request {c : Instr} {k : Byte} {s t : State} {h : Handed} {a : Answer} (hk : requestCode c = some k)
    (ht : s.takes? c = some h) (hexec : exec c s = .next t) {code : Byte} {tag : BitVec 16}
    (hreply : t.lnk.replies = s.lnk.replies ++ [⟨code, tag, a⟩]) (ha : Refuses k a) :
    (a ≠ .denied .glareRejected ∧ t = s.place k h.tag a) ∨
      (a = .denied .glareRejected ∧ ∃ g m q p r, c = .seizeIn g m q p ∧ s.group? g = some r ∧
        t = ((s.withHanded h).countTally g Tallies.won).place k h.tag a) := by
  by_cases hseize : ∃ g m q p, c = .seizeIn g m q p
  · obtain ⟨g, m, q, p, rfl⟩ := hseize
    cases hk
    cases hexec
    rcases seizeIn_refused ht ha hreply with hsame | ⟨hglare, r, hr, hserve⟩
    · exact .inl hsame
    · exact .inr ⟨hglare, g, m, q, p, r, rfl, hr, hserve⟩
  by_cases hrestart : c = .trafficRestart
  · subst hrestart
    cases hk
    obtain ⟨rfl, hplace⟩ := trafficRestart_answered ht hexec hreply
    exact .inl ⟨by simp, hplace⟩
  obtain ⟨b, act, hserved, hact⟩ :=
    exec_served_harmless hk (fun g m q p hc => hseize ⟨g, m, q, p, hc⟩) hrestart
  rw [hserved s] at hexec
  cases hexec
  exact .inl (serve_refused ht (hact _ _) ha hreply)

/-- Settles O6: a refusal is harmless, or rejects glare at a SEIZE_IN. -/
theorem refusedTrafficRequestChangesNothing : Obligations.RefusedTrafficRequestChangesNothing := by
  intro c k s t h a hk ht hexec hreply ha
  rcases refused_request hk ht hexec hreply ha with ⟨hne, rfl⟩ | ⟨rfl, g, m, q, p, r, hc, hr, rfl⟩
  · exact ⟨fun _ => rfl, fun hglare => absurd hglare hne⟩
  · exact ⟨fun hne => absurd rfl hne, fun _ => ⟨g, m, q, p, r, hc, hr, glareRejected_effect hr k h.tag _⟩⟩

end Sys2Proof.Proofs.TrunkGroups

/-! ## Call contexts: ANSWER (R42) -/

namespace Sys2Proof.Proofs.CallContexts

open Sys2Proof.Machine

/-! ### ANSWER -/

section Answer
variable {s : State} {n : Nat} (hn : n ≤ 4095) (arrival : Count)
include hn

/-- ANSWER of an ESTABLISHED context stamps it with the arrival count (R42). -/
theorem answer_established {x : Context} (hx : s.context? n = some x) (he : x.state = .established) :
    answer n arrival s = (.accepted .plain, s.setContext n { x with state := .answered, answerStamp := some arrival }) := by
  unfold answer
  rw [if_neg (by omega), hx]
  simp [he]

/-- ANSWER of a FREE context, or of one that is not ESTABLISHED, changes nothing (R42). -/
theorem answer_wrongState (hne : ∀ x, s.context? n = some x → x.state ≠ .established) :
    answer n arrival s = (.denied .wrongState, s) := by
  unfold answer
  rw [if_neg (by omega)]
  cases hx : s.context? n with
  | none => rfl
  | some x => simp [hne x hx]

end Answer

/-- A context that is written and the reply to it: LNK answered, that context as written, every other one and the rest of the part as
they were. -/
theorem setContext_place_frame (s : State) (h : Handed) (n : Nat) (x : Context) (k : Byte) (a : Answer) :
    let t := ((s.withHanded h).setContext n x).place k h.tag a
    t.lnk = s.lnk.answered k h.tag a ∧ t.context? n = some x ∧ OtherContexts n s t ∧ t.ctb = s.ctb ∧
      t.rse.dests = s.rse.dests ∧ t.sac = s.sac ∧ SameRoutes s t ∧ SameServices s t := by
  refine ⟨rfl, ?written, ?others, rfl, rfl, rfl, ⟨rfl, rfl, rfl⟩, ⟨rfl, rfl, rfl, rfl⟩⟩
  case written => simp
  case others =>
    intro j hj
    rw [place_context?, setContext_context?_other _ _ _ _ hj, withHanded_context?]

/-- Settles O35, by the state of the context. -/
theorem answerStampsTheArrival : Obligations.AnswerStampsTheArrival := by
  intro s h n ht hn
  have hexec : exec (.answer n) s = .next ((answer n h.arrival (s.withHanded h)).2.place 0x06 h.tag
      (answer n h.arrival (s.withHanded h)).1) :=
    congrArg _ (serve_taken ht 0x06 false (answer n))
  refine ⟨fun x hx he => ?established, fun hne => ?otherwise⟩
  case established =>
    rw [answer_established (s := s.withHanded h) hn h.arrival hx he] at hexec
    exact ⟨_, hexec, setContext_place_frame s h n _ 0x06 _⟩
  case otherwise =>
    rw [answer_wrongState (s := s.withHanded h) hn h.arrival hne, State.withHanded_place] at hexec
    exact hexec

end Sys2Proof.Proofs.CallContexts

/-! ## The rating of a leg: the charge's bounds, the times of its span, and the result (R108, R113, R123 to R134) -/

namespace Sys2Proof.Proofs.Rating

open Sys2Proof.Machine

/-! ### The clamp -/

/-- Raising to whole increments passes a multiple of the increment only where the seconds already do. -/
theorem lt_raisedSeconds_iff {m increment : Nat} (hpos : 0 < increment) (hdvd : increment ∣ m) (s : Nat) :
    m < raisedSeconds s increment ↔ m < s := by
  obtain ⟨k, rfl⟩ := hdvd
  unfold raisedSeconds
  rw [Nat.mul_lt_mul_left hpos, ← Nat.succ_le_iff, Nat.le_div_iff_mul_le hpos, Nat.succ_mul, Nat.mul_comm k]
  omega

/-- Every increment of table 7.1 divides the 86,400 s of the clamp. -/
theorem increment_pos_and_dvd_day : ∀ i ∈ increments, 0 < i ∧ i ∣ 86400 := by decide

/-- The clamp applies exactly to calls longer than 864,000 ds: the minimum is too short to reach it (R125). -/
theorem isClamped_secondsOf {d minimum increment : Nat} (hmin : minimum ≤ 600) (hinc : increment ∈ increments) :
    isClamped (secondsOf d minimum) increment = decide (864000 < d) := by
  obtain ⟨hpos, hdvd⟩ := increment_pos_and_dvd_day increment hinc
  unfold isClamped
  rw [decide_eq_decide, lt_raisedSeconds_iff hpos hdvd, secondsOf]
  omega

theorem billedOf_le (s increment : Nat) : billedOf s increment ≤ 86400 := Nat.min_le_right _ _

theorem durationOf_eq (answer release : Count) :
    durationOf answer release = (release.toNat + 4294967296 - answer.toNat) % 4294967296 := by
  have := answer.isLt
  rw [durationOf, BitVec.toNat_sub]
  omega

/-! ### The charge -/

theorem sumOf_eq (t : Tariff) (band : Nat) (times : List Nat) :
    sumOf t band times = times.getD 0 0 * t.rate band 0 + times.getD 1 0 * t.rate band 1 +
      times.getD 2 0 * t.rate band 2 + times.getD 3 0 * t.rate band 3 := by
  simp [sumOf, List.range_succ, Nat.add_assoc]

/-- With no rate above `r`, N is at most `r` for each ds of the four times (R129). -/
theorem sumOf_le {t : Tariff} {band r : Nat} (hrate : ∀ p, t.rate band p ≤ r) {times : List Nat} (hlen : times.length = 4) :
    sumOf t band times ≤ times.sum * r := by
  obtain ⟨a, b, c, d, rfl⟩ : ∃ a b c d, times = [a, b, c, d] := List.length_eq_four.mp hlen
  calc sumOf t band [a, b, c, d]
    _ = a * t.rate band 0 + b * t.rate band 1 + c * t.rate band 2 + d * t.rate band 3 := sumOf_eq t band _
    _ ≤ a * r + b * r + c * r + d * r := by gcongr <;> exact hrate _
    _ = [a, b, c, d].sum * r := by simp only [List.sum_cons, List.sum_nil]; ring

/-- Base is N / 600 rounded half up (R130). -/
theorem baseOf_rounds (n : Nat) : 600 * baseOf n ≤ n + 300 ∧ n + 300 < 600 * (baseOf n + 1) := by
  unfold baseOf
  omega

/-- Adj is Base times the factor in percent, rounded half up (R131). -/
theorem adjOf_rounds (base factor : Nat) :
    100 * adjOf base factor ≤ base * factor + 50 ∧ base * factor + 50 < 100 * (adjOf base factor + 1) := by
  unfold adjOf
  omega

theorem totalOf_eq (adj fee cap : Nat) :
    totalOf adj fee cap = if cap ≠ 0 ∧ cap < adj + fee then cap else adj + fee := by
  simp [totalOf, isCapped]

/-- A cap only lowers the total (R132). -/
theorem totalOf_le (adj fee cap : Nat) : totalOf adj fee cap ≤ adj + fee := by
  rw [totalOf_eq]
  split <;> omega

/-! ### The times of a span -/

/-- The shares of a span in two adjoining intervals make up its share in both together. -/
theorem overlapDs_add {x y z : Int} (hxy : x ≤ y) (hyz : y ≤ z) (a b : Int) :
    overlapDs x y a b + overlapDs y z a b = overlapDs x z a b := by
  unfold overlapDs
  omega

/-- The pieces of a day, from its start or a boundary on, fill it without gap: a span's shares in them add up to its share in the
rest of the day. -/
theorem sum_overlapDs_pieces (at0 a b : Int) (period : Nat) {start : Nat} {bs : List (Nat × Nat)}
    (hasc : (bs.map Prod.fst).Pairwise (· < ·)) (hstart : ∀ x ∈ bs, start ≤ 600 * x.1) (hday : start ≤ Config.day)
    (hbs : ∀ x ∈ bs, x.1 ≤ 1439) :
    ((pieces start period bs).map fun q => overlapDs (at0 + q.1) (at0 + q.2.1) a b).sum =
      overlapDs (at0 + start) (at0 + Config.day) a b := by
  induction bs generalizing start period with
  | nil => simp [pieces]
  | cons x t ih =>
    obtain ⟨m, p⟩ := x
    simp only [List.map_cons, List.pairwise_cons, List.forall_mem_map, List.forall_mem_cons] at hasc hstart hbs
    obtain ⟨hm, hasc⟩ := hasc
    obtain ⟨hs, _⟩ := hstart
    obtain ⟨hm1439, hbs⟩ := hbs
    have hmday : 600 * m ≤ Config.day := by simp only [Config.day]; omega
    have hrest := ih p hasc (fun x hx => Nat.mul_le_mul_left 600 (hm x hx).le) hmday hbs
    rw [pieces, List.map_cons, List.sum_cons, hrest]
    dsimp only
    exact overlapDs_add (by omega) (by omega) a b

/-- The periods of the pieces are the start period and the boundaries' periods. -/
theorem pieces_period_lt {k start period : Nat} {bs : List (Nat × Nat)} (hperiod : period < k) (hbs : ∀ x ∈ bs, x.2 < k) :
    ∀ q ∈ pieces start period bs, q.2.2 < k := by
  induction bs generalizing start period with
  | nil => simpa [pieces] using hperiod
  | cons x t ih =>
    obtain ⟨m, p⟩ := x
    obtain ⟨hp, ht⟩ := List.forall_mem_cons.mp hbs
    exact List.forall_mem_cons.mpr ⟨hperiod, ih hp ht⟩

/-- A sum split by the key of its terms: each term is counted under its own key and no other. -/
theorem sum_split_by_key {α : Type} (key val : α → Nat) {k : Nat} {l : List α} (hkey : ∀ q ∈ l, key q < k) :
    ∑ p ∈ Finset.range k, (l.map fun q => if key q = p then val q else 0).sum = (l.map val).sum := by
  induction l with
  | nil => simp
  | cons q t ih =>
    obtain ⟨hq, ht⟩ := List.forall_mem_cons.mp hkey
    simp only [List.map_cons, List.sum_cons, Finset.sum_add_distrib, ih ht, Finset.sum_ite_eq, Finset.mem_range, if_pos hq]

/-- The four periods share out what a span has of a day (R113). -/
theorem sum_timeOnDay {c : Clk} (hwork : c.work.sound) (hrest : c.rest.sound) (a b n : Int) :
    ∑ p ∈ Finset.range 4, c.timeOnDay p a b n = overlapDs (n * Config.day) (n * Config.day + Config.day) a b := by
  have hsound : (c.schedule (c.dayType n)).sound := by
    cases c.dayType n with
    | work => exact hwork
    | rest => exact hrest
  obtain ⟨hstart, hasc, hbs⟩ := hsound
  have hperiods := pieces_period_lt (k := 4) (start := 0) (Nat.lt_succ_of_le hstart)
    fun x hx => Nat.lt_succ_of_le (hbs x hx).2.2
  unfold Clk.timeOnDay
  rw [sum_split_by_key (fun q : Nat × Nat × Nat => q.2.2)
      (fun q => overlapDs (n * Config.day + q.1) (n * Config.day + q.2.1) a b) hperiods,
    sum_overlapDs_pieces (n * Config.day) a b _ hasc (by simp) (by simp) fun x hx => (hbs x hx).2.1]
  simp

/-- The four periods share out a span of at most a day: it lies in the day of its start and the next (R113, R127). -/
theorem sum_timeIn {c : Clk} (hwork : c.work.sound) (hrest : c.rest.sound) (a : Int) {len : Nat} (hlen : len ≤ 864000) :
    ∑ p ∈ Finset.range 4, c.timeIn a len p = len := by
  simp only [Clk.timeIn, Finset.sum_add_distrib, sum_timeOnDay hwork hrest, dayOf, overlapDs, Config.day]
  omega

/-! ### The stages' times, and the period list -/

/-- The time of a leg's billed seconds in a period: all of it in period 0 with the clock UNSET (R114, R127, R128). -/
def timeOf (c : Clk) (start : Int) (billed p : Nat) : Nat :=
  if c.clock = .unset then (if p = 0 then 10 * billed else 0) else c.timeIn start (10 * billed) p

theorem periodTimes_eq (c : Clk) (start : Int) (billed : Nat) :
    periodTimes c start billed = [timeOf c start billed 0, timeOf c start billed 1, timeOf c start billed 2,
      timeOf c start billed 3] := by
  unfold periodTimes timeOf
  cases c.clock with
  | unset => rfl
  | set => rfl

/-- The times of the four periods sum to 10 x S (R127). -/
theorem sum_timeOf {c : Clk} (hwork : c.work.sound) (hrest : c.rest.sound) (start : Int) {billed : Nat} (hb : billed ≤ 86400) :
    ∑ p ∈ Finset.range 4, timeOf c start billed p = 10 * billed := by
  unfold timeOf
  split
  · simp
  · exact sum_timeIn hwork hrest start (by omega)

section PeriodList
variable (c : Clk) (r : Int)

/-- With nothing billed, the list is one entry of time 0 (R134). -/
theorem periodList_zero {billed : Nat} (hb : billed = 0) (times : List Nat) :
    periodList c r billed times = [(if c.clock = .unset then 0 else c.periodAt r, 0)] := by
  rw [periodList, if_pos hb]
  cases c.clock with
  | unset => rfl
  | set => rfl

/-- With time billed, the list is that of the four periods, those without time left out (R134). -/
theorem periodList_periodTimes {billed : Nat} (hb : billed ≠ 0) (start : Int) :
    periodList c r billed (periodTimes c start billed) =
      ((List.range 4).map fun p => (p, timeOf c start billed p)).filter fun x => x.2 != 0 := by
  rw [periodList, if_neg hb, periodTimes_eq]
  rfl

theorem mem_periodList {billed : Nat} (hb : billed ≠ 0) (start : Int) (p ds : Nat) :
    (p, ds) ∈ periodList c r billed (periodTimes c start billed) ↔ p < 4 ∧ ds = timeOf c start billed p ∧ ds ≠ 0 := by
  rw [periodList_periodTimes c r hb]
  simp only [List.mem_filter, List.mem_map, List.mem_range, Prod.mk.injEq, bne_iff_ne]
  constructor
  · rintro ⟨⟨_, hp, rfl, rfl⟩, hds⟩
    exact ⟨hp, rfl, hds⟩
  · rintro ⟨hp, rfl, hds⟩
    exact ⟨⟨p, hp, rfl, rfl⟩, hds⟩

/-- The periods of the list rise (R134). -/
theorem periodList_ascending (billed : Nat) (start : Int) :
    ((periodList c r billed (periodTimes c start billed)).map Prod.fst).Pairwise (· < ·) := by
  by_cases hb : billed = 0
  · simp [periodList_zero c r hb]
  · rw [periodList_periodTimes c r hb, List.pairwise_map]
    exact List.Pairwise.filter _ (List.pairwise_map.mpr List.pairwise_lt_range)

theorem periodList_length_le (billed : Nat) (start : Int) :
    (periodList c r billed (periodTimes c start billed)).length ≤ 4 := by
  by_cases hb : billed = 0
  · simp [periodList_zero c r hb]
  · rw [periodList_periodTimes c r hb]
    exact (List.length_filter_le _ _).trans (by simp)

/-- Entries without time may be left out of a sum of times. -/
theorem sum_filter_time (l : List (Nat × Nat)) :
    ((l.filter fun x => x.2 != 0).map Prod.snd).sum = (l.map Prod.snd).sum := by
  induction l with
  | nil => rfl
  | cons x t ih =>
    by_cases hx : x.2 = 0
    · simp [hx, ih]
    · simp [hx, ih]

variable {c}

/-- The times of the list sum to 10 x S (R127, R134). -/
theorem periodList_sum (hwork : c.work.sound) (hrest : c.rest.sound) (start : Int) {billed : Nat} (hb : billed ≤ 86400) :
    ((periodList c r billed (periodTimes c start billed)).map Prod.snd).sum = 10 * billed := by
  by_cases hz : billed = 0
  · rw [periodList_zero c r hz, hz]
    rfl
  · rw [periodList_periodTimes c r hz, sum_filter_time, ← sum_timeOf hwork hrest start hb]
    simp [List.range_succ, Finset.sum_range_succ, Nat.add_assoc]

/-- The list is never empty: with time billed, its times sum to more than 0 (R134). -/
theorem periodList_length_pos (hwork : c.work.sound) (hrest : c.rest.sound) (start : Int) {billed : Nat} (hb : billed ≤ 86400) :
    1 ≤ (periodList c r billed (periodTimes c start billed)).length := by
  by_cases hz : billed = 0
  · simp [periodList_zero c r hz]
  · refine List.length_pos_iff.mpr fun hnil => hz ?_
    have hsum := periodList_sum r hwork hrest start hb
    rw [hnil, List.map_nil, List.sum_nil] at hsum
    omega

end PeriodList

/-! ### Instants and factors -/

/-- The answer instant of a result with the clock SET is a weekday and a ds of day (R108, R126). -/
theorem answerInstant_set {c : Clk} (hset : c.clock = .set) (answer : Count) :
    ∃ weekday ds, answerInstant c answer = some (weekday, ds) ∧ weekday < 7 ∧ ds < 864000 ∧
      (weekday : Int) = ((c.weekday : Int) + c.instant answer / 864000) % 7 ∧ (ds : Int) = c.instant answer % 864000 := by
  refine ⟨(c.weekdayOf (dayOf (c.instant answer))).val, dsOf (c.instant answer), by rw [answerInstant, hset], Fin.isLt _, ?_⟩
  simp only [Clk.weekdayOf, dayOf, dsOf, Config.day]
  omega

theorem factorOf_outLeg (t : Tariff) (level : Fin 5) : factorOf t .outLeg level.val = t.factors[level] := by
  simp [factorOf, List.getD_eq_getElem?_getD]

/-! ### The charge and the record -/

/-- The charge's stages, each within its bound of 7.3 (R129 to R132). -/
theorem charge_bounds {t : Tariff} {band factor : Nat} {times : List Nat} (hrate : ∀ p, t.rate band p ≤ 65535)
    (hlen : times.length = 4) (hsum : times.sum ≤ 864000) (hfactor : factor ≤ 400) (hfee : t.fee ≤ 65535) :
    sumOf t band times ≤ 56622240000 ∧ baseOf (sumOf t band times) ≤ 94370400 ∧
      adjOf (baseOf (sumOf t band times)) factor ≤ 377481600 ∧
      totalOf (adjOf (baseOf (sumOf t band times)) factor) t.fee t.cap ≤ 377547135 := by
  have hn : sumOf t band times ≤ 56622240000 :=
    (sumOf_le hrate hlen).trans (Nat.mul_le_mul_right 65535 hsum)
  have hbase : baseOf (sumOf t band times) ≤ 94370400 := by
    have := baseOf_rounds (sumOf t band times)
    omega
  have hadj : adjOf (baseOf (sumOf t band times)) factor ≤ 377481600 := by
    have := Nat.mul_le_mul hbase hfactor
    have := adjOf_rounds (baseOf (sumOf t band times)) factor
    omega
  exact ⟨hn, hbase, hadj, (totalOf_le _ _ _).trans (Nat.add_le_add hadj hfee)⟩

/-- The record in the terms of the statement: its duration and clamp as arithmetic on the stamps, and its times by `timeOf`. -/
theorem rateRecord_eq (c : Clk) {t : Tariff} (leg : Leg) (callRef : BitVec 32) (answer release : Count) (cut : Bool)
    (sequence : BitVec 32) (period : Nat) (hmin : t.minimum ≤ 600) (hinc : t.increment ∈ increments) :
    let d := (release.toNat + 4294967296 - answer.toNat) % 4294967296
    let billed := billedOf (secondsOf d t.minimum) t.increment
    let start := c.instant release - (if 864000 < d then (864000 : Int) else (d : Int))
    let time := timeOf c start billed
    let factor := factorOf t leg.direction leg.level
    let adj := adjOf (baseOf (sumOf t leg.band [time 0, time 1, time 2, time 3])) factor
    rateRecord c t leg callRef answer release cut sequence period =
      { sequence, callRef, carrier := leg.index.val + 1, direction := leg.direction, group := leg.group, member := leg.member,
        band := leg.band, answerAt := answerInstant c answer, duration := d, billed,
        periods := periodList c (c.instant release) billed (periodTimes c start billed),
        level := levelRecorded leg.direction leg.level, factor, fee := t.fee, charge := totalOf adj t.fee t.cap,
        generation := t.generation, period, clockUnset := decide (c.clock = .unset), clamped := decide (864000 < d),
        capped := decide (t.cap ≠ 0 ∧ t.cap < adj + t.fee), restartCut := cut } := by
  intro d billed start time factor adj
  have hstart : spanStart (c.instant release) d (decide (864000 < d)) = start := by
    simp only [spanStart, decide_eq_true_eq, Config.day, start]
    rfl
  simp only [rateRecord, durationOf_eq, isClamped_secondsOf hmin hinc]
  rw [hstart, periodTimes_eq]
  rfl

/-- Settles O39: the charge by the bound of each stage, the result stage by stage. -/
theorem chargeStaysWithinItsBounds : Obligations.ChargeStaysWithinItsBounds := by
  refine ⟨?charge, ?result⟩
  case charge =>
    intro t band factor times hrate hlen hsum hfactor hfee n base adj
    obtain ⟨hn, hbase, hadj, htotal⟩ := charge_bounds hrate hlen hsum hfactor hfee
    obtain ⟨hbaseLow, hbaseHigh⟩ := baseOf_rounds n
    obtain ⟨hadjLow, hadjHigh⟩ := adjOf_rounds base factor
    exact ⟨sumOf_eq t band times, hn, hbaseLow, hbaseHigh, hbase, hadjLow, hadjHigh, hadj, totalOf_eq adj t.fee t.cap, htotal⟩
  case result =>
    intro c t leg callRef answer release cut sequence period hmin hinc hwork hrest x d instant billed start time adj
    have hinstant : instant = c.instant := funext fun stamp => by
      simp only [instant, Clk.instant, Clk.presentDs, Config.day]
      split <;> rfl
    have hx : x = _ := rateRecord_eq c leg callRef answer release cut sequence period hmin hinc
    clear_value instant x
    subst hinstant hx
    have hbilled : billed ≤ 86400 := billedOf_le _ _
    refine ⟨rfl, rfl, rfl, rfl, rfl, ?unset, fun hset => answerInstant_set hset answer, ?inLeg, ?outLeg,
      fun hb => periodList_zero c _ hb _, fun hb => mem_periodList c _ hb start, periodList_ascending c _ billed start,
      periodList_length_pos _ hwork hrest start hbilled, periodList_length_le c _ billed start,
      periodList_sum _ hwork hrest start hbilled, rfl, rfl, rfl, rfl, rfl, rfl, rfl, rfl, rfl, rfl, rfl, rfl⟩
    case unset =>
      intro hunset
      simp only [answerInstant, hunset]
    case inLeg =>
      intro hin
      simp only [hin]
      exact ⟨rfl, rfl⟩
    case outLeg =>
      intro level hout hlevel
      simp only [hout, hlevel]
      exact ⟨factorOf_outLeg t level, rfl⟩

end Sys2Proof.Proofs.Rating

/-! ## The billed seconds (R124, R125) and TARIFF_SET (R117, R118) -/

namespace Sys2Proof.Proofs.Tariffs

open Sys2Proof.Machine Sys2Proof.Proofs.Rating

/-! ### The billed seconds -/

/-- Raising to the next multiple adds less than one increment (R125). -/
theorem raisedSeconds_bounds {increment : Nat} (hpos : 0 < increment) (s : Nat) :
    s ≤ raisedSeconds s increment ∧ raisedSeconds s increment < s + increment := by
  have hdiv := Nat.div_add_mod (s + increment - 1) increment
  have hmod := Nat.mod_lt (s + increment - 1) hpos
  unfold raisedSeconds
  omega

/-- Past the clamp a leg is billed for 24 hours. -/
theorem billedOf_clamped {s increment : Nat} (h : isClamped s increment = true) : billedOf s increment = 86400 :=
  Nat.min_eq_right (of_decide_eq_true h).le

/-- Without the clamp the raised seconds are billed. -/
theorem billedOf_unclamped {s increment : Nat} (h : isClamped s increment = false) :
    billedOf s increment = raisedSeconds s increment :=
  Nat.min_eq_left (Nat.le_of_not_lt (of_decide_eq_false h))

/-- The billed seconds are whole increments, since the clamp of 86,400 is (R125). -/
theorem dvd_billedOf {increment : Nat} (hday : increment ∣ 86400) (s : Nat) : increment ∣ billedOf s increment := by
  cases h : isClamped s increment with
  | true => rwa [billedOf_clamped h]
  | false => exact billedOf_unclamped h ▸ Nat.dvd_mul_right ..

/-- Settles O38, with the clamp and without. -/
theorem billedSecondsAreWholeIncrements : Obligations.BilledSecondsAreWholeIncrements := by
  intro d minimum increment hmin hinc s billed
  obtain ⟨hpos, hday⟩ := increment_pos_and_dvd_day increment hinc
  refine ⟨rfl, dvd_billedOf hday s, billedOf_le s increment, ?clamp, fun h => ?unclamped, billedOf_clamped⟩
  case clamp => rw [isClamped_secondsOf hmin hinc, decide_eq_true_iff]
  case unclamped =>
    rw [show billed = raisedSeconds s increment from billedOf_unclamped h]
    exact raisedSeconds_bounds hpos s

/-! ### The tariff entries -/

section SetTariff
variable (s : State) (d : LegDir) (i : Fin 63) (x : Tariff)

/-- An entry that is written is read back. -/
@[simp] theorem setTariff_tariff_same : (s.setTariff d i x).rte.tariff d i = x := by
  cases d <;> simp [State.setTariff, Rte.tariff]

/-- The entries of the other carriers, and of the same carrier's other direction, are as they were. -/
theorem setTariff_tariff_other {e : LegDir} {j : Fin 63} (h : ¬ (e = d ∧ j = i)) :
    (s.setTariff d i x).rte.tariff e j = s.rte.tariff e j := by
  have hij : e = d → i.val ≠ j.val := fun hd hval => h ⟨hd, Fin.ext hval.symm⟩
  cases d with
  | outLeg =>
    cases e with
    | outLeg => exact Vector.getElem_set_ne i.isLt j.isLt (hij rfl)
    | inLeg => rfl
  | inLeg =>
    cases e with
    | outLeg => rfl
    | inLeg => exact Vector.getElem_set_ne i.isLt j.isLt (hij rfl)

end SetTariff

/-- A clamp with the lower bound 0 is its upper bound alone. -/
theorem clamp_zero (high n : Nat) : clamp 0 high n = min n high := Nat.zero_max _

/-! ### TARIFF_SET -/

@[simp] theorem carrierIndex_succ (i : Fin 63) : carrierIndex (i.val + 1) = some i := by
  have := i.isLt
  simp [carrierIndex, this]

/-- The entry TARIFF_SET stores, its clamps written out (R118). -/
theorem newTariff_eq (f : TariffFields) (old : Tariff) :
    newTariff f old = Tariff.mk f.rates f.fee (min f.minimum 600) f.increment (f.factors.map fun m => max 50 (min m 400)) f.cap
      ((old.generation + 1) % 65536) := by
  rw [newTariff, clamp_zero]
  rfl

/-- TARIFF_SET with good fields depends on the account's lock alone (R117). -/
theorem tariffSet_eq {s : State} {f : TariffFields} {i : Fin 63} {d : LegDir} (hcarrier : f.carrier = i.val + 1)
    (hdir : decodeLegDir f.direction = some d) (hinc : f.increment ∈ increments) :
    tariffSet f s = if (s.sac.carriers[i].account d).locked then (.denied .tariffLocked, s) else
      let x := newTariff f (s.rte.tariff d i)
      (.accepted (.tariff x.generation x.minimum x.factors), s.setTariff d i x) := by
  simp only [tariffSet, hcarrier, carrierIndex_succ, hdir, hinc, not_true_eq_false, if_false]

/-- Settles O50, by the account's lock. -/
theorem tariffSetReplacesTheEntry : Obligations.TariffSetReplacesTheEntry := by
  intro s h f i d ht hcarrier hdir hinc
  have hact := tariffSet_eq (s := s.withHanded h) hcarrier hdir hinc
  have hexec : exec (.tariffSet f) s = .next ((tariffSet f (s.withHanded h)).2.place 0x28 h.tag
      (tariffSet f (s.withHanded h)).1) :=
    congrArg _ (serve_taken ht 0x28 false fun _ => tariffSet f)
  refine ⟨fun hfree => ?unlocked, fun hlock => ?locked⟩
  case unlocked =>
    rw [State.withHanded_sac, if_neg (ne_true_of_eq_false hfree)] at hact
    rw [hact] at hexec
    refine ⟨_, _, hexec, newTariff_eq f _, ?reply, setTariff_tariff_same _ d i _,
      fun e j => setTariff_tariff_other _ d i _, ?frame⟩
    case reply => rw [State.place_lnk, State.setTariff_lnk]; rfl
    case frame => simp
  case locked =>
    rw [State.withHanded_sac, if_pos hlock] at hact
    rw [hact] at hexec
    exact hexec

end Sys2Proof.Proofs.Tariffs

/-! ## Carrier accounts and settlement periods: the standing stays the one R145 gives (R145, R146) -/

namespace Sys2Proof.Proofs.Accounts

open Sys2Proof.Machine

/-! ### States in which standings agree -/

/-- Two states in which each carrier has the same standing, stored and derived. -/
def SameStandings (s t : State) : Prop :=
  ∀ i : Fin 63, t.sac.carriers[i].standing = s.sac.carriers[i].standing ∧
    t.sac.carriers[i].derived = s.sac.carriers[i].derived

/-- Every carrier but one has the standing R145 gives it: the state between a change of that carrier and its re-evaluation. -/
def DerivedExcept (i : Fin 63) (s : State) : Prop :=
  ∀ j : Fin 63, j ≠ i → s.sac.carriers[j].standing = s.sac.carriers[j].derived

section Standings
variable {s t u : State}

theorem SameStandings.of_carriers (h : t.sac.carriers = s.sac.carriers) : SameStandings s t := fun i => by simp [h]

theorem SameStandings.trans (h : SameStandings s t) (h' : SameStandings t u) : SameStandings s u := fun i => by
  obtain ⟨hstored, hderived⟩ := h i
  obtain ⟨hstored', hderived'⟩ := h' i
  exact ⟨hstored'.trans hstored, hderived'.trans hderived⟩

theorem SameStandings.standingsDerived (h : SameStandings s t) (hs : s.standingsDerived) : t.standingsDerived := fun i => by
  obtain ⟨hstored, hderived⟩ := h i
  rw [hstored, hderived, hs i]

theorem SameStandings.derivedExcept {i : Fin 63} (h : SameStandings s t) (hs : DerivedExcept i s) : DerivedExcept i t :=
  fun j hj => by
    obtain ⟨hstored, hderived⟩ := h j
    rw [hstored, hderived, hs j hj]

theorem standingsDerived_of_carriers (h : t.sac.carriers = s.sac.carriers) (hs : s.standingsDerived) : t.standingsDerived :=
  (SameStandings.of_carriers h).standingsDerived hs

end Standings

/-! ### A change of one carrier, and its re-evaluation (R146) -/

section OneCarrier
variable {s : State} {i : Fin 63}

theorem setCarrier_carrier_same (x : Carrier) : (s.setCarrier i x).sac.carriers[i] = x := by simp

theorem setCarrier_carrier_other (x : Carrier) {j : Fin 63} (h : j ≠ i) :
    (s.setCarrier i x).sac.carriers[j] = s.sac.carriers[j] :=
  Vector.getElem_set_ne i.isLt j.isLt fun hval => h (Fin.ext hval.symm)

theorem reevaluate_carrier_other {j : Fin 63} (h : j ≠ i) : (s.reevaluate i).sac.carriers[j] = s.sac.carriers[j] := by
  unfold State.reevaluate
  dsimp only
  split_ifs
  · rfl
  · simp only [raise_sac]
    exact setCarrier_carrier_other _ h

theorem setCarrier_derivedExcept (hs : s.standingsDerived) (x : Carrier) : DerivedExcept i (s.setCarrier i x) := fun j hj => by
  rw [setCarrier_carrier_other x hj, hs j]

/-- A re-evaluation gives its carrier the standing of R145 and leaves the others as they are (R146). -/
theorem DerivedExcept.reevaluate (hs : DerivedExcept i s) : (s.reevaluate i).standingsDerived := fun j => by
  by_cases hj : j = i
  · subst hj
    rw [reevaluate_carrier]
    rfl
  · rw [reevaluate_carrier_other hj, hs j hj]

/-- However a carrier is changed, its re-evaluation restores the standing of R145 (R146). -/
theorem changeCarrier_reevaluate_standingsDerived (hs : s.standingsDerived) (f : Carrier → Carrier) :
    ((s.changeCarrier i f).reevaluate i).standingsDerived :=
  (setCarrier_derivedExcept hs _).reevaluate

theorem changeAccount_carrier_same (d : LegDir) (f : Account → Account) :
    (s.changeAccount i d f).sac.carriers[i] = s.sac.carriers[i].setAccount d (f (s.sac.carriers[i].account d)) :=
  setCarrier_carrier_same _

theorem changeAccount_carrier_other (d : LegDir) (f : Account → Account) {j : Fin 63} (h : j ≠ i) :
    (s.changeAccount i d f).sac.carriers[j] = s.sac.carriers[j] :=
  setCarrier_carrier_other _ h

/-- A change of an account that leaves the OUT total as it is moves no standing (R142, R145). -/
theorem changeAccount_sameStandings (s : State) (i : Fin 63) {d : LegDir} {f : Account → Account}
    (hf : d = .outLeg → ∀ a, (f a).total = a.total) : SameStandings s (s.changeAccount i d f) := fun j => by
  by_cases hj : j = i
  · subst hj
    rw [changeAccount_carrier_same]
    cases d with
    | inLeg => exact ⟨rfl, rfl⟩
    | outLeg => simp [Carrier.setAccount, Carrier.derived, Carrier.account, hf rfl]
  · rw [changeAccount_carrier_other d f hj]
    exact ⟨rfl, rfl⟩

end OneCarrier

/-! ### The rating of a leg (R135, R140 to R142) -/

@[simp] theorem testLatch_carriers (s : State) : s.testLatch.sac.carriers = s.sac.carriers := by
  unfold State.testLatch
  dsimp only
  split_ifs
  · rfl
  · rw [raise_sac]

@[simp] theorem append_carriers (s : State) (r : ChargeRecord) : (s.append r).sac.carriers = s.sac.carriers := by
  simp [State.append]

/-- A leg's charge changes its account, and no carrier but its own; ACCOUNT_SATURATED changes none (R140, R141). -/
theorem account_carriers (s : State) (i : Fin 63) (d : LegDir) (charge billed : Nat) :
    (s.account i d charge billed).sac.carriers = (s.changeAccount i d (Account.take charge billed)).sac.carriers := by
  unfold State.account
  dsimp only
  split_ifs
  · rw [raise_sac]
  · rfl

/-- A lost record counts in its account's lost records, which move no standing (R163). -/
theorem lose_sameStandings (s : State) (i : Fin 63) (r : ChargeRecord) : SameStandings s (s.lose i r) := by
  unfold State.lose
  refine .trans (changeAccount_sameStandings s i ?_) (.of_carriers (congrArg Sac.carriers (raise_sac _ _)))
  exact fun _ _ => rfl

theorem placeRecord_sameStandings (s : State) (i : Fin 63) (guarded : Bool) (r : ChargeRecord) :
    SameStandings s (s.placeRecord i guarded r).2 := by
  unfold State.placeRecord
  split_ifs
  · exact .of_carriers (by simp)
  · exact .of_carriers (by simp)
  · exact lose_sameStandings s i r

/-- The rating of a leg: an IN leg moves no standing, an OUT leg's carrier is re-evaluated (R140, R146). -/
theorem rateLeg_standingsDerived {s : State} (hs : s.standingsDerived) (callRef : BitVec 32) (answer release : Count)
    (cut : Bool) (leg : Leg) : (s.rateLeg callRef answer release cut leg).2.standingsDerived := by
  have haccount (charge billed : Nat) := account_carriers s leg.index leg.direction charge billed
  unfold State.rateLeg
  dsimp only
  split
  · refine DerivedExcept.reevaluate ((placeRecord_sameStandings _ _ _ _).derivedExcept ?_)
    exact (SameStandings.of_carriers (haccount _ _)).derivedExcept (setCarrier_derivedExcept hs _)
  · rename_i hin
    refine (placeRecord_sameStandings _ _ _ _).standingsDerived ?_
    refine standingsDerived_of_carriers (haccount _ _) ?_
    exact (changeAccount_sameStandings s leg.index (by simp [hin])).standingsDerived hs

theorem endUnanswered_standingsDerived {s : State} (hs : s.standingsDerived) (leg : Leg) :
    (s.endUnanswered leg).2.standingsDerived :=
  standingsDerived_of_carriers (State.settleGuard_sac_carriers _ leg.guarded)
    ((changeAccount_sameStandings s leg.index fun _ _ => by rfl).standingsDerived hs)

theorem handLegs_standingsDerived {f : Leg → State → LegReply × State}
    (hf : ∀ l s, s.standingsDerived → (f l s).2.standingsDerived) {ls : List Leg} {s : State} (hs : s.standingsDerived) :
    (handLegs f ls s).2.standingsDerived := by
  induction ls generalizing s with
  | nil => exact hs
  | cons l t ih => exact ih (hf l s hs)

/-- The end of a context's legs, rated or counted unanswered (R43, R45, R47). -/
theorem endLegs_standingsDerived {s : State} (hs : s.standingsDerived) (c : Context) (release : Count) (cut : Bool) :
    (s.endLegs c release cut).2.standingsDerived := by
  unfold State.endLegs
  split_ifs
  · exact handLegs_standingsDerived (fun l _ h => rateLeg_standingsDerived h _ _ _ _ l) hs
  · exact handLegs_standingsDerived (fun l _ h => endUnanswered_standingsDerived h l) hs

/-! ### The settlement requests (R143, R144, R151, R152) -/

theorem carrierLimits_standingsDerived {s : State} (hs : s.standingsDerived) (carrier watch cap : Nat) :
    (carrierLimits carrier watch cap s).2.standingsDerived := by
  unfold carrierLimits
  split
  · exact hs
  split
  · exact hs
  · exact changeCarrier_reevaluate_standingsDerived hs _

theorem carrierBar_standingsDerived {s : State} (hs : s.standingsDerived) (carrier flag : Nat) :
    (carrierBar carrier flag s).2.standingsDerived := by
  unfold carrierBar
  split
  · exact hs
  · exact hs
  · exact changeCarrier_reevaluate_standingsDerived hs _

theorem nextPeriod_standingsDerived {s : State} (hs : s.standingsDerived) : s.nextPeriod.standingsDerived :=
  standingsDerived_of_carriers s.nextPeriod_sac_carriers hs

theorem closeCarriers_standingsDerived (period : Nat) {is : List (Fin 63)} {s : State} (hs : s.standingsDerived) :
    (is.foldl (fun t i => t.closeCarrier period i) s).standingsDerived := by
  induction is generalizing s with
  | nil => exact hs
  | cons i is ih => exact ih (changeCarrier_reevaluate_standingsDerived hs _)

theorem periodClose_standingsDerived {s : State} (hs : s.standingsDerived) (carrier : Nat) :
    (periodClose carrier s).2.standingsDerived := by
  unfold periodClose
  split_ifs
  · exact nextPeriod_standingsDerived (closeCarriers_standingsDerived _ hs)
  split
  · exact hs
  · exact nextPeriod_standingsDerived (changeCarrier_reevaluate_standingsDerived hs _)

/-! ### Circuits and groups change no carrier -/

section Circuits
variable (s : State)

theorem groupOnly_sac {g : Nat} {s t : State} (h : GroupOnly g s t) : t.sac = s.sac := by
  obtain ⟨⟨_, _, _, hsac, _⟩, _⟩ := h
  exact hsac

@[simp] theorem setScore_sac (g n : Nat) : (s.setScore g n).sac = s.sac := groupOnly_sac (setScore_groupOnly g n s)

@[simp] theorem enterBlocked_sac (g : Nat) : (s.enterBlocked g).sac = s.sac := groupOnly_sac (enterBlocked_groupOnly g s)

@[simp] theorem drainTest_sac (g : Nat) : (s.drainTest g).sac = s.sac := groupOnly_sac (drainTest_groupOnly g s)

@[simp] theorem ordinaryRelease_sac (g m : Nat) : (s.ordinaryRelease g m).sac = s.sac :=
  groupOnly_sac (ordinaryRelease_groupOnly g m s)

@[simp] theorem hunt_sac (g : Nat) (r : Group) (n : Nat) (tried : List (Nat × Nat)) : (s.hunt g r n tried).2.sac = s.sac :=
  groupOnly_sac (hunt_groupOnly g r n tried s)

@[simp] theorem failCircuit_sac (cause : FailCause) (g m : Nat) : (s.failCircuit cause g m).sac = s.sac := by
  cases cause with
  | circuitFault => exact groupOnly_sac (faultRelease_groupOnly g m s)
  | farCongestion => exact ordinaryRelease_sac s g m
  | farRefused => exact ordinaryRelease_sac s g m

@[simp] theorem releaseLegs_sac (c : Context) : (s.releaseLegs c).sac = s.sac := by
  unfold State.releaseLegs
  dsimp only
  split <;> simp

@[simp] theorem sweepCircuit_sac (g m : Nat) : (s.sweepCircuit g m).sac = s.sac := by
  unfold State.sweepCircuit
  split
  · split_ifs <;> simp
  · rfl

@[simp] theorem sweepLegs_sac (c : Context) : (s.sweepLegs c).sac = s.sac := by
  unfold State.sweepLegs
  dsimp only
  split <;> simp

end Circuits

/-! ### A selection changes no carrier -/

section Selection
variable (s : State)

@[simp] theorem grant_carriers (n idx : Nat) (e : RouteEntry) (r : Group) (m : Nat) :
    (s.grant n idx e r m).sac.carriers = s.sac.carriers := by simp [State.grant]

@[simp] theorem overflow_sac (n g : Nat) (r : Group) : (s.overflow n g r).sac = s.sac := by simp [State.overflow]

@[simp] theorem examine_carriers (n idx : Nat) (p : Priority) (tried : List (Nat × Nat)) (e : RouteEntry) :
    (s.examine n idx p tried e).2.sac.carriers = s.sac.carriers := by
  unfold State.examine
  split
  · rfl
  rename_i r _
  split_ifs
  · rfl
  · rfl
  · rfl
  · simp
  · have hhunt := hunt_sac s e.group r n tried
    split <;> rename_i hu <;> rw [hu] at hhunt
    · exact (grant_carriers ..).trans (congrArg Sac.carriers hhunt)
    · exact congrArg Sac.carriers ((overflow_sac ..).trans hhunt)

@[simp] theorem walk_carriers (n : Nat) (p : Priority) (tried : List (Nat × Nat)) (idx : Nat) (es : List RouteEntry) (k : Skips) :
    (s.walk n p tried idx es k).2.sac.carriers = s.sac.carriers := by
  induction es generalizing idx k s with
  | nil => rfl
  | cons e t ih =>
    have hexamine := examine_carriers s n idx p tried e
    unfold State.walk
    split <;> rename_i hu <;> rw [hu] at hexamine
    · exact hexamine
    · exact (ih _ _ _).trans hexamine

@[simp] theorem walkList_carriers (n l : Nat) (p : Priority) (g : Progress) :
    (s.walkList n l p g).2.sac.carriers = s.sac.carriers := walk_carriers ..

@[simp] theorem farGate_sac (i : Nat) (d : Dest) (p : Priority) : (s.farGate i d p).2.sac = s.sac := rfl

@[simp] theorem firstSelection_carriers (n : Nat) (c : Context) (g : Progress) (called : List Nat) :
    (s.firstSelection n c g called).2.sac.carriers = s.sac.carriers := by
  unfold State.firstSelection
  split
  · rfl
  · dsimp only
    split_ifs <;> simp

@[simp] theorem crankback_carriers (n : Nat) (c : Context) : (s.crankback n c).2.sac.carriers = s.sac.carriers := by
  unfold State.crankback
  split
  · split
    · rfl
    · dsimp only
      split_ifs <;> simp
  · rfl

@[simp] theorem spend_sac (n : Nat) (o : Selection) : (s.spend n o).sac = s.sac := by
  unfold State.spend
  split_ifs <;> simp

@[simp] theorem continueFrom_carriers (n : Nat) (c : Context) : (s.continueFrom n c).2.sac.carriers = s.sac.carriers := by
  unfold State.continueFrom
  dsimp only
  rw [spend_sac]
  split_ifs <;> simp

end Selection

/-! ### The call requests but RELEASE change no carrier -/

section Calls
variable (s : State)

@[simp] theorem acceptSeizure_carriers (g m : Nat) (r : Group) (c : Circuit) (q : BitVec 32) (p : Priority) (n : Nat) :
    (s.acceptSeizure g m r c q p n).sac.carriers = s.sac.carriers := by simp [State.acceptSeizure]

@[simp] theorem loseGlare_carriers (n : Nat) : (s.loseGlare n).2.sac.carriers = s.sac.carriers := by
  unfold State.loseGlare
  split
  · rfl
  · dsimp only
    split_ifs <;> simp

@[simp] theorem yieldGlare_carriers (g m : Nat) (r : Group) (c : Circuit) (q : BitVec 32) (p : Priority) :
    (s.yieldGlare g m r c q p).2.sac.carriers = s.sac.carriers := by
  unfold State.yieldGlare
  split
  · rfl
  · split_ifs <;> simp

theorem seizeIn_carriers (g m : Nat) (q : BitVec 32) (p : Nat) : (seizeIn g m q p s).2.sac.carriers = s.sac.carriers := by
  unfold seizeIn
  split
  · rfl
  split
  · rfl
  split
  · rfl
  split
  · rfl
  split
  · rfl
  split
  · rfl
  · rfl
  · rfl
  · split_ifs <;> simp
  -- An IDLE or GUARD circuit is seized when a context is FREE and record room exists.
  all_goals
    split
    · rfl
    · split_ifs <;> simp

theorem route_carriers (n budget : Nat) (called : DigitField) : (route n budget called s).2.sac.carriers = s.sac.carriers := by
  unfold route
  split_ifs
  · rfl
  split
  · rfl
  split
  · rfl
  split_ifs
  · rfl
  · simp

theorem continueCall_carriers (n : Nat) : (continueCall n s).2.sac.carriers = s.sac.carriers := by
  unfold continueCall
  split_ifs
  · rfl
  split
  · rfl
  · split_ifs <;> simp

theorem confirm_carriers (n g m : Nat) : (confirm n g m s).2.sac.carriers = s.sac.carriers := by
  unfold confirm
  split_ifs
  · rfl
  split
  · rfl
  · split <;> simp

@[simp] theorem failAttempt_carriers (cause : FailCause) (n : Nat) (o : OutLeg) :
    (s.failAttempt cause n o).sac.carriers = s.sac.carriers := by simp [State.failAttempt]

theorem failCall_carriers (n g m cause again : Nat) : (failCall n g m cause again s).2.sac.carriers = s.sac.carriers := by
  unfold failCall
  split_ifs
  · rfl
  split
  · rfl
  · rfl
  · rfl
  split
  · rfl
  dsimp only
  split_ifs
  · split <;> simp
  · simp

theorem answer_carriers (n : Nat) (arrival : Count) : (answer n arrival s).2.sac.carriers = s.sac.carriers := by
  unfold answer
  split_ifs
  · rfl
  split
  · rfl
  · split_ifs <;> simp

end Calls

/-! ### The other requests change no carrier -/

section Requests
variable (s : State)

theorem groupDefine_sac (f : GroupFields) : (groupDefine f s).2.sac = s.sac := by
  unfold groupDefine
  split
  · rfl
  split_ifs
  · split
    · rfl
    · split_ifs <;> rfl
  all_goals rfl

theorem groupBlock_sac (g : Nat) : (groupBlock g s).2.sac = s.sac := by
  unfold groupBlock
  split
  · rfl
  dsimp only
  split
  · split_ifs <;> simp
  · rfl
  · rfl

theorem groupUnblock_sac (g : Nat) : (groupUnblock g s).2.sac = s.sac := by
  unfold groupUnblock
  split
  · rfl
  dsimp only
  split <;> rfl

theorem onCircuit_sac (f : Circuit → Circuit) (g m : Nat) : (onCircuit f g m s).2.sac = s.sac := by
  unfold onCircuit
  split
  · rfl
  · split <;> simp

theorem destSet_sac (digits : DigitField) (list : Nat) : (destSet digits list s).2.sac = s.sac := by
  unfold destSet
  split
  · rfl
  split_ifs
  · rfl
  split
  · rfl
  · split <;> rfl

theorem destClear_sac (digits : DigitField) : (destClear digits s).2.sac = s.sac := by
  unfold destClear
  split
  · rfl
  · split <;> rfl

theorem listSet_sac (list : Nat) (entries : List (Nat × Nat)) : (listSet list entries s).2.sac = s.sac := by
  unfold listSet
  split
  · rfl
  · split <;> rfl

theorem farMark_sac (digits : DigitField) (level duration : Nat) : (farMark digits level duration s).2.sac = s.sac := by
  unfold farMark
  split
  · rfl
  split_ifs
  · rfl
  · split <;> rfl

theorem overlaySet_sac (f : OverlayFields) : (overlaySet f s).2.sac = s.sac := by
  unfold overlaySet
  split
  · split
    · rfl
    split
    · split_ifs <;> rfl
    all_goals rfl
  · rfl

@[simp] theorem changeSlot_sac (i : Fin 16) (new : SlotState) (cause : OverlayCause) :
    (s.changeSlot i new cause).sac = s.sac := by
  obtain ⟨_, _, h⟩ := changeSlot_eventOnly s i new cause
  rw [h]

/-- A slot request changes no account when its act on the slot does not. -/
theorem onSlot_sac {f : Fin 16 → Slot → State → Option State} (hf : ∀ i x s t, f i x s = some t → t.sac = s.sac) (n : Nat) :
    (onSlot n f s).2.sac = s.sac := by
  unfold onSlot
  split_ifs
  · split
    · rename_i hact; exact hf _ _ _ _ hact
    · rfl
  · rfl

theorem armSlot_sac (i : Fin 16) (x : Slot) (s t : State) (h : armSlot i x s = some t) : t.sac = s.sac := by
  unfold armSlot at h
  split at h
  · split_ifs at h <;> cases h <;> simp
  · cases h; rfl
  · cases h; rfl

theorem fireSlot_sac (i : Fin 16) (x : Slot) (s t : State) (h : fireSlot i x s = some t) : t.sac = s.sac := by
  unfold fireSlot at h
  split at h <;> cases h <;> simp

theorem revertSlot_sac (i : Fin 16) (x : Slot) (s t : State) (h : revertSlot i x s = some t) : t.sac = s.sac := by
  unfold revertSlot at h
  split at h <;> cases h <;> simp

theorem disarmSlot_sac (i : Fin 16) (x : Slot) (s t : State) (h : disarmSlot i x s = some t) : t.sac = s.sac := by
  unfold disarmSlot at h
  split at h <;> cases h <;> simp

theorem tariffSet_sac (f : TariffFields) : (tariffSet f s).2.sac = s.sac := by
  unfold tariffSet
  split
  · rfl
  · rfl
  · split_ifs <;> simp

theorem calendarSet_sac (dayType start : Nat) (bs : List (Nat × Nat)) : (calendarSet dayType start bs s).2.sac = s.sac := by
  unfold calendarSet
  split
  · rfl
  split
  · rfl
  · split <;> rfl

theorem weekSet_sac (days : Vector Nat 7) : (weekSet days s).2.sac = s.sac := by
  unfold weekSet
  split <;> rfl

theorem timeSet_sac (weekday ds rest : Nat) : (timeSet weekday ds rest s).2.sac = s.sac := by
  unfold timeSet
  split <;> rfl

theorem guardMode_carriers (mode threshold : Nat) : (guardMode mode threshold s).2.sac.carriers = s.sac.carriers := by
  unfold guardMode
  split
  · rfl
  · split_ifs <;> simp

theorem recordsFetch_carriers (count : Nat) : (recordsFetch count s).2.sac.carriers = s.sac.carriers := by
  simp [recordsFetch]

theorem eventConfig_sac (mode : Nat) (mask : BitVec 16) (elevated : Nat) (entries : List (Nat × Nat × Nat)) :
    (eventConfig mode mask elevated entries s).2.sac = s.sac := by
  unfold eventConfig
  split
  · rfl
  split_ifs
  · rfl
  · split <;> rfl

theorem queryPart_sac (clear : Nat) : (queryPart clear s).2.sac = s.sac := by
  unfold queryPart
  split
  · rfl
  · dsimp only
    split_ifs <;> rfl

theorem queryGroup_sac (number clear : Nat) : (queryGroup number clear s).2.sac = s.sac := by
  unfold queryGroup
  split_ifs
  · rfl
  split
  · rfl
  · dsimp only
    split_ifs <;> simp

theorem query_sac (target number member clear : Nat) : (query target number member clear s).2.sac = s.sac := by
  unfold query
  split
  · rfl
  · exact queryPart_sac s clear
  · exact queryGroup_sac s number clear
  all_goals rfl

end Requests

/-! ### RELEASE and the sweep's visit end a context's legs (R43, R47) -/

section Ends
variable {s : State}

theorem release_standingsDerived (hs : s.standingsDerived) (n : Nat) (arrival : Count) :
    (release n arrival s).2.standingsDerived := by
  unfold release
  split_ifs
  · exact hs
  split
  · exact hs
  · rename_i c _
    exact standingsDerived_of_carriers (congrArg _ (State.freeContext_sac _ n))
      (endLegs_standingsDerived (standingsDerived_of_carriers (by rw [releaseLegs_sac]) hs) c arrival false)

theorem visit_standingsDerived (hs : s.standingsDerived) (w : Sweep) (c : Context) :
    (s.visit w c).standingsDerived :=
  standingsDerived_of_carriers (by simp [State.visit]) (endLegs_standingsDerived hs c w.instant true)

end Ends

/-! ### The timers and the link -/

section Steps
variable (s : State)

@[simp] theorem timeoutContext_carriers (n : Nat) : (s.timeoutContext n).sac.carriers = s.sac.carriers := by
  unfold State.timeoutContext
  split
  · rfl
  · split <;> simp

@[simp] theorem discard_sac (cause : LinkCause) : (s.discard cause).sac = s.sac := by simp [State.discard]

@[simp] theorem judgeFrame_sac (r : Receiver) : (s.judgeFrame r).sac = s.sac := by
  unfold State.judgeFrame
  split
  · simp
  · split_ifs <;> simp

@[simp] theorem delimiter_sac : s.delimiter.sac = s.sac := by
  unfold State.delimiter
  dsimp only
  split_ifs <;> simp

@[simp] theorem receive_sac (b : Byte) : (s.receive b).sac = s.sac := by
  unfold State.receive
  split_ifs <;> simp

@[simp] theorem foldl_receive_sac (wire : List Byte) : (wire.foldl State.receive s).sac = s.sac := by
  induction wire generalizing s with
  | nil => rfl
  | cons b wire ih => rw [List.foldl_cons, ih, receive_sac]

end Steps

/-! ### Every command -/

/-- A request keeps the standings when its block's act does: its reply, or the refusal in a sweep, changes no carrier. -/
theorem serve_standingsDerived {s : State} (hs : s.standingsDerived) {c : Instr} {k : Byte} {b : Bool}
    {act : Count → State → Answer × State} (hact : ∀ n u, u.standingsDerived → (act n u).2.standingsDerived) :
    (s.serve c k b act).standingsDerived := by
  cases ht : s.takes? c with
  | none => rwa [serve_untaken ht]
  | some h =>
    rcases TrunkGroups.serve_cases ht k b act with hserve | hserve <;> rw [hserve]
    · exact hs
    · exact hact h.arrival (s.withHanded h) hs

theorem serve_of_carriers {s : State} (hs : s.standingsDerived) {c : Instr} {k : Byte} {b : Bool}
    {act : Count → State → Answer × State} (hact : ∀ n u, (act n u).2.sac.carriers = u.sac.carriers) :
    (s.serve c k b act).standingsDerived :=
  serve_standingsDerived hs fun n u => standingsDerived_of_carriers (hact n u)

theorem serve_of_sac {s : State} (hs : s.standingsDerived) {c : Instr} {k : Byte} {b : Bool}
    {act : Count → State → Answer × State} (hact : ∀ n u, (act n u).2.sac = u.sac) :
    (s.serve c k b act).standingsDerived :=
  serve_of_carriers hs fun n u => congrArg Sac.carriers (hact n u)

/-- TRAFFIC_RESTART begins the sweep, or is refused; neither changes a carrier (R46). -/
theorem execTrafficRestart_standingsDerived {s : State} (hs : s.standingsDerived) :
    ∃ t, exec .trafficRestart s = .next t ∧ t.standingsDerived := by
  refine ⟨_, rfl, ?_⟩
  split
  · exact hs
  · split_ifs <;> exact hs

/-- A request of the host keeps the standings: RELEASE, the limits, the bar and the close re-evaluate each carrier whose standing
they may move (R146), and the others change no carrier. -/
theorem exec_request_standingsDerived {c : Instr} {k : Byte} (hk : requestCode c = some k) {s : State}
    (hs : s.standingsDerived) : ∃ t, exec c s = .next t ∧ t.standingsDerived := by
  cases c
  all_goals cases hk
  case trafficRestart => exact execTrafficRestart_standingsDerived hs
  case release => exact ⟨_, rfl, serve_standingsDerived hs fun n _ h => release_standingsDerived h _ n⟩
  case carrierLimits => exact ⟨_, rfl, serve_standingsDerived hs fun _ _ h => carrierLimits_standingsDerived h _ _ _⟩
  case carrierBar => exact ⟨_, rfl, serve_standingsDerived hs fun _ _ h => carrierBar_standingsDerived h _ _⟩
  case periodClose => exact ⟨_, rfl, serve_standingsDerived hs fun _ _ h => periodClose_standingsDerived h _⟩
  case seizeIn => exact ⟨_, rfl, serve_of_carriers hs fun _ u => seizeIn_carriers u _ _ _ _⟩
  case route => exact ⟨_, rfl, serve_of_carriers hs fun _ u => route_carriers u _ _ _⟩
  case continueCall => exact ⟨_, rfl, serve_of_carriers hs fun _ u => continueCall_carriers u _⟩
  case confirm => exact ⟨_, rfl, serve_of_carriers hs fun _ u => confirm_carriers u _ _ _⟩
  case failCall => exact ⟨_, rfl, serve_of_carriers hs fun _ u => failCall_carriers u _ _ _ _ _⟩
  case answer => exact ⟨_, rfl, serve_of_carriers hs fun n u => answer_carriers u _ n⟩
  case guardMode => exact ⟨_, rfl, serve_of_carriers hs fun _ u => guardMode_carriers u _ _⟩
  case recordsFetch => exact ⟨_, rfl, serve_of_carriers hs fun _ u => recordsFetch_carriers u _⟩
  case farMark => exact ⟨_, rfl, serve_of_sac hs fun _ u => farMark_sac u _ _ _⟩
  case groupDefine => exact ⟨_, rfl, serve_of_sac hs fun _ u => groupDefine_sac u _⟩
  case groupBlock => exact ⟨_, rfl, serve_of_sac hs fun _ u => groupBlock_sac u _⟩
  case groupUnblock => exact ⟨_, rfl, serve_of_sac hs fun _ u => groupUnblock_sac u _⟩
  case circuitBlock => exact ⟨_, rfl, serve_of_sac hs fun _ u => onCircuit_sac u _ _ _⟩
  case circuitUnblock => exact ⟨_, rfl, serve_of_sac hs fun _ u => onCircuit_sac u _ _ _⟩
  case destSet => exact ⟨_, rfl, serve_of_sac hs fun _ u => destSet_sac u _ _⟩
  case destClear => exact ⟨_, rfl, serve_of_sac hs fun _ u => destClear_sac u _⟩
  case listSet => exact ⟨_, rfl, serve_of_sac hs fun _ u => listSet_sac u _ _⟩
  case overlaySet => exact ⟨_, rfl, serve_of_sac hs fun _ u => overlaySet_sac u _⟩
  case overlayArm => exact ⟨_, rfl, serve_of_sac hs fun _ u => onSlot_sac u armSlot_sac _⟩
  case overlayDisarm => exact ⟨_, rfl, serve_of_sac hs fun _ u => onSlot_sac u disarmSlot_sac _⟩
  case overlayFire => exact ⟨_, rfl, serve_of_sac hs fun _ u => onSlot_sac u fireSlot_sac _⟩
  case overlayRevert => exact ⟨_, rfl, serve_of_sac hs fun _ u => onSlot_sac u revertSlot_sac _⟩
  case tariffSet => exact ⟨_, rfl, serve_of_sac hs fun _ u => tariffSet_sac u _⟩
  case calendarSet => exact ⟨_, rfl, serve_of_sac hs fun _ u => calendarSet_sac u _ _ _⟩
  case weekSet => exact ⟨_, rfl, serve_of_sac hs fun _ u => weekSet_sac u _⟩
  case timeSet => exact ⟨_, rfl, serve_of_sac hs fun _ u => timeSet_sac u _ _ _⟩
  case eventConfig => exact ⟨_, rfl, serve_of_sac hs fun _ u => eventConfig_sac u _ _ _ _⟩
  case query => exact ⟨_, rfl, serve_of_sac hs fun _ u => query_sac u _ _ _ _⟩

/-! ### The steps that are no request -/

section Unrequested
variable {s : State}

theorem execSweepContextVisit_standingsDerived (hs : s.standingsDerived) :
    ∃ t, exec .sweepContextVisit s = .next t ∧ t.standingsDerived := by
  refine ⟨_, rfl, ?_⟩
  split
  · exact hs
  split_ifs
  · split
    · exact hs
    · exact visit_standingsDerived hs _ _
  · exact hs

theorem execSweepCompletion_standingsDerived (hs : s.standingsDerived) :
    ∃ t, exec .sweepCompletion s = .next t ∧ t.standingsDerived := by
  refine ⟨_, rfl, ?_⟩
  split
  · split_ifs
    · exact hs
    · exact standingsDerived_of_carriers (by rw [completeSweep_sac]) hs
  · exact hs
  · exact hs

theorem execGuardTimerExpiry_standingsDerived (hs : s.standingsDerived) (g m : Nat) :
    ∃ t, exec (.guardTimerExpiry g m) s = .next t ∧ t.standingsDerived := by
  refine ⟨_, rfl, ?_⟩
  split
  · split_ifs
    · exact standingsDerived_of_carriers (by rw [State.setCircuit_sac]) hs
    · exact hs
  · exact hs

theorem execSeizeTimerExpiry_standingsDerived (hs : s.standingsDerived) (g m : Nat) :
    ∃ t, exec (.seizeTimerExpiry g m) s = .next t ∧ t.standingsDerived := by
  refine ⟨_, rfl, ?_⟩
  split
  · split_ifs
    · refine standingsDerived_of_carriers ?_ hs
      dsimp only
      rw [raise_sac, State.countTally_sac]
      split <;> simp
    · exact hs
  · exact hs

theorem execSampleTimerExpiry_standingsDerived (hs : s.standingsDerived) (g : Nat) :
    ∃ t, exec (.sampleTimerExpiry g) s = .next t ∧ t.standingsDerived := by
  refine ⟨_, rfl, ?_⟩
  split
  · split_ifs
    · exact standingsDerived_of_carriers (by rw [setScore_sac, State.setGroup_sac]) hs
    · exact hs
  · exact hs

theorem execMarkExpiry_standingsDerived (hs : s.standingsDerived) (i : Nat) :
    ∃ t, exec (.markExpiry i) s = .next t ∧ t.standingsDerived := by
  refine ⟨_, rfl, ?_⟩
  split
  · split_ifs
    · exact standingsDerived_of_carriers (by rw [raise_sac, State.setDest_sac]) hs
    · exact hs
  · exact hs

theorem execMidnightRollover_standingsDerived (hs : s.standingsDerived) :
    ∃ t, exec .midnightRollover s = .next t ∧ t.standingsDerived := by
  refine ⟨_, rfl, ?_⟩
  split_ifs <;> exact hs

theorem execEndOfDecisecond_standingsDerived (hs : s.standingsDerived) :
    ∃ t, exec .endOfDecisecond s = .next t ∧ t.standingsDerived := by
  refine ⟨_, rfl, ?_⟩
  split <;> exact hs

theorem execFrameComplete_standingsDerived (hs : s.standingsDerived) (wire : List Byte) :
    ∃ t, exec (.frameComplete wire) s = .next t ∧ t.standingsDerived := by
  have hreceived : ((wire.foldl State.receive s).delimiter).standingsDerived :=
    standingsDerived_of_carriers (by rw [delimiter_sac, foldl_receive_sac]) hs
  refine ⟨_, rfl, ?_⟩
  split
  · exact hs
  · exact hreceived
  · exact hreceived

theorem execTakeFrame_standingsDerived (hs : s.standingsDerived) :
    ∃ t, exec .takeFrame s = .next t ∧ t.standingsDerived := by
  refine ⟨_, rfl, ?_⟩
  split
  · exact hs
  split_ifs
  · dsimp only
    split <;> exact hs
  · exact hs

theorem execTransmitterChoice_standingsDerived (hs : s.standingsDerived) :
    ∃ t, exec .transmitterChoice s = .next t ∧ t.standingsDerived :=
  ⟨_, rfl, standingsDerived_of_carriers (by rw [State.idleChoice_sac]) hs⟩

theorem execFrameSent_standingsDerived (hs : s.standingsDerived) :
    ∃ t, exec .frameSent s = .next t ∧ t.standingsDerived := by
  refine ⟨_, rfl, ?_⟩
  split_ifs
  · exact hs
  · exact standingsDerived_of_carriers (by rw [State.choose_sac]) hs

theorem execStartUpClearEnd_standingsDerived (hs : s.standingsDerived) :
    ∃ t, exec .startUpClearEnd s = .next t ∧ t.standingsDerived := by
  refine ⟨_, rfl, ?_⟩
  split
  · exact standingsDerived_of_carriers (by rw [State.idleChoice_sac, raise_sac, State.run_sac]) hs
  · exact hs
  · exact hs

end Unrequested

/-- The power-on standing of every carrier is the one R145 gives (R156). -/
theorem reset_standingsDerived : State.reset.standingsDerived := by
  intro i
  have hentry : State.reset.sac.carriers[i] = Carrier.powerOn := Vector.getElem_replicate i.isLt
  rw [hentry]
  rfl

/-- A step that is no request keeps the standings: a sweep step, a timer, the link, or a reset. -/
theorem exec_unrequested_standingsDerived {c : Instr} (hk : requestCode c = none) {s : State} (hs : s.standingsDerived) :
    ∃ t, exec c s = .next t ∧ t.standingsDerived := by
  cases c
  case sweepContextVisit => exact execSweepContextVisit_standingsDerived hs
  case sweepCompletion => exact execSweepCompletion_standingsDerived hs
  case guardTimerExpiry g m => exact execGuardTimerExpiry_standingsDerived hs g m
  case seizeTimerExpiry g m => exact execSeizeTimerExpiry_standingsDerived hs g m
  case sampleTimerExpiry g => exact execSampleTimerExpiry_standingsDerived hs g
  case markExpiry i => exact execMarkExpiry_standingsDerived hs i
  case midnightRollover => exact execMidnightRollover_standingsDerived hs
  case endOfDecisecond => exact execEndOfDecisecond_standingsDerived hs
  case frameComplete wire => exact execFrameComplete_standingsDerived hs wire
  case takeFrame => exact execTakeFrame_standingsDerived hs
  case transmitterChoice => exact execTransmitterChoice_standingsDerived hs
  case frameSent => exact execFrameSent_standingsDerived hs
  case startUpClearEnd => exact execStartUpClearEnd_standingsDerived hs
  case powerOnReset => exact ⟨_, rfl, reset_standingsDerived⟩
  case resetInputAsserted => exact ⟨_, rfl, reset_standingsDerived⟩
  all_goals cases hk

/-- Every command keeps the standings. -/
theorem exec_standingsDerived (c : Instr) {s : State} (hs : s.standingsDerived) :
    ∃ t, exec c s = .next t ∧ t.standingsDerived := by
  cases hk : requestCode c with
  | some k => exact exec_request_standingsDerived hk hs
  | none => exact exec_unrequested_standingsDerived hk hs

/-- Settles O10, by the command at the front of the queue. -/
theorem stepKeepsStandingsDerived : Obligations.StepKeepsStandingsDerived := by
  intro s t hs hstep
  unfold step at hstep
  split at hstep
  · cases hstep
    exact hs
  · rename_i c q _
    obtain ⟨u, hexec, hu⟩ := exec_standingsDerived c (s := s.withPending q) hs
    cases hexec.symm.trans hstep
    exact hu

end Sys2Proof.Proofs.Accounts

/-! ## The charge record queue: GUARD_MODE and RECORDS_FETCH test the latch (R164 to R166) -/

namespace Sys2Proof.Proofs.ChargeRecords

open Sys2Proof.Machine

/-! ### What raising an event writes (R173) -/

/-- Every overlay slot is as it was, its state apart. -/
def SlotsKept (s t : State) : Prop :=
  ∀ i : Fin 16, t.rse.slots[i] = { s.rse.slots[i] with state := t.rse.slots[i].state }

theorem onlyEvents_iff {s t : State} : OnlyEvents s t ↔ EventOnly s t ∧ SlotsKept s t := by
  constructor
  · rintro ⟨slots, notices, hslots, rfl⟩
    exact ⟨⟨slots, notices, rfl⟩, hslots⟩
  · rintro ⟨⟨slots, notices, rfl⟩, hslots⟩
    exact ⟨slots, notices, hslots, rfl⟩

@[simp] theorem note_rse (s : State) (e : Event) : (s.note e).rse = s.rse := by
  unfold State.note
  split <;> rfl

@[simp] theorem changeSlot_slots (s : State) (i : Fin 16) (new : SlotState) (cause : OverlayCause) :
    (s.changeSlot i new cause).rse.slots = s.rse.slots.set i.val { s.rse.slots[i] with state := new } i.isLt := by
  rw [State.changeSlot, note_rse]
  rfl

section Slots
variable {s t : State}

theorem changeSlot_slotsKept (h : SlotsKept s t) (i : Fin 16) (new : SlotState) (cause : OverlayCause) :
    SlotsKept s (t.changeSlot i new cause) := by
  intro j
  rw [changeSlot_slots]
  by_cases hij : i = j
  · subst hij
    rw [Fin.getElem_fin, Vector.getElem_set_self, h i]
  · have hne : i.val ≠ j.val := fun hval => hij (Fin.ext hval)
    simpa [Vector.getElem_set_ne i.isLt j.isLt hne] using h j

theorem evalSlot_slotsKept (h : SlotsKept s t) (e : Event) (i : Fin 16) : SlotsKept s (t.evalSlot e i) := by
  unfold State.evalSlot
  dsimp only
  split
  · exact changeSlot_slotsKept h i _ _
  · exact changeSlot_slotsKept h i _ _
  · exact h

theorem handToSlots_slotsKept (h : SlotsKept s t) (e : Event) : SlotsKept s (t.handToSlots e) := by
  unfold State.handToSlots
  split
  · exact List.foldlRecOn (motive := SlotsKept s) _ _ h fun _ hu i _ => evalSlot_slotsKept hu e i
  · exact h

end Slots

/-- Raising an event changes the notice queue and the states of the overlay slots at most (R173). -/
theorem raise_onlyEvents (s : State) (e : Event) : OnlyEvents s (s.raise e) :=
  onlyEvents_iff.2 ⟨raise_eventOnly s e, handToSlots_slotsKept (fun i => by simp) e⟩

/-! ### What raising an event reads -/

/-- Two states that agree on all that raising an event reads: ENU, the overlay slots, the link's phase and the clock's count. -/
structure EventInputs (s t : State) : Prop where
  enu : t.enu = s.enu
  slots : t.rse.slots = s.rse.slots
  phase : t.lnk.phase = s.lnk.phase
  count : t.clk.count = s.clk.count

section Inputs
variable {s t : State}

theorem note_inputs (h : EventInputs s t) (e : Event) : EventInputs (s.note e) (t.note e) := by
  unfold State.note
  rw [h.enu, h.phase, h.count]
  split
  · exact ⟨rfl, h.slots, h.phase, h.count⟩
  · exact h

theorem changeSlot_inputs (h : EventInputs s t) (i : Fin 16) (new : SlotState) (cause : OverlayCause) :
    EventInputs (s.changeSlot i new cause) (t.changeSlot i new cause) := by
  have hset : ∀ x : Slot, EventInputs (s.setSlot i x) (t.setSlot i x) := fun x =>
    ⟨h.enu, congrArg (Vector.set · i.val x i.isLt) h.slots, h.phase, h.count⟩
  unfold State.changeSlot
  rw [h.slots]
  exact note_inputs (hset _) _

theorem evalSlot_inputs (h : EventInputs s t) (e : Event) (i : Fin 16) :
    EventInputs (s.evalSlot e i) (t.evalSlot e i) := by
  unfold State.evalSlot
  rw [h.slots]
  dsimp only
  split
  · exact changeSlot_inputs h i _ _
  · exact changeSlot_inputs h i _ _
  · exact h

theorem handToSlots_inputs (h : EventInputs s t) (e : Event) : EventInputs (s.handToSlots e) (t.handToSlots e) := by
  unfold State.handToSlots
  rw [h.enu]
  split
  · exact List.foldl_rel (r := EventInputs) h fun i _ _ _ hu => evalSlot_inputs hu e i
  · exact h

/-- States that agree on what an event reads agree after it, on the notices and the slots too. -/
theorem raise_inputs (h : EventInputs s t) (e : Event) : EventInputs (s.raise e) (t.raise e) :=
  handToSlots_inputs (note_inputs h e) e

end Inputs

/-! ### The latch test (R165) -/

theorem latchTest_eq_latchAfter (latch : Bool) (fill threshold : Nat) :
    latchTest latch fill threshold = latchAfter latch fill threshold := by
  cases latch with
  | false => rfl
  | true => exact decide_not.symm.trans (decide_eq_decide.2 Nat.not_le)

section LatchEvents
variable (s : State) (old new : Bool)

theorem latchEvents_onlyEvents : OnlyEvents s (s.latchEvents old new) := by
  unfold State.latchEvents
  split
  · exact onlyEvents_iff.2 ⟨EventOnly.refl s, fun _ => rfl⟩
  · exact raise_onlyEvents s _

theorem latchEvents_inputs {s t : State} (h : EventInputs s t) :
    EventInputs (s.latchEvents old new) (t.latchEvents old new) := by
  unfold State.latchEvents
  split
  · exact h
  · exact raise_inputs h _

@[simp] theorem latchEvents_sac : (s.latchEvents old new).sac = s.sac := by
  obtain ⟨_, _, _, h⟩ := latchEvents_onlyEvents s old new
  rw [h]

end LatchEvents

/-- SAC after a latch test. -/
def latched (x : Sac) : Sac := { x with latch := latchAfter x.latch x.records.length x.threshold }

/-- The latch test writes the latch and then raises the event of its move, if it moves. -/
theorem testLatch_eq (s : State) :
    s.testLatch = ({ s with sac := latched s.sac } : State).latchEvents s.sac.latch (latched s.sac).latch := by
  unfold State.testLatch State.latchEvents
  rw [latchTest_eq_latchAfter]
  by_cases hsame : latchAfter s.sac.latch s.sac.records.length s.sac.threshold = s.sac.latch <;>
    simp [latched, hsame]

@[simp] theorem testLatch_sac (s : State) : s.testLatch.sac = latched s.sac := by rw [testLatch_eq, latchEvents_sac]

/-! ### A request that changes SAC and tests the latch -/

/-- States that differ in what events write, at most, differ in no more after the same reply. -/
theorem place_onlyEvents {s t : State} (h : OnlyEvents s t) (k : Byte) (tag : BitVec 16) (a : Answer) :
    OnlyEvents (s.place k tag a) (t.place k tag a) := by
  obtain ⟨slots, notices, hslots, rfl⟩ := h
  exact ⟨slots, notices, hslots, rfl⟩

/-- A request that replaces SAC by `x`, tests the latch and replies: LNK answered, SAC with its new latch, the events of the
latch's move, and nothing else. -/
theorem testLatch_place (s : State) (h : Handed) (x : Sac) (k : Byte) (a : Answer) :
    let t := ({ s.withHanded h with sac := x } : State).testLatch.place k h.tag a
    OnlyEvents { s with lnk := s.lnk.answered k h.tag a, sac := latched x } t ∧
      SameEvents (s.latchEvents x.latch (latched x).latch) t := by
  dsimp only
  rw [testLatch_eq]
  constructor
  · exact place_onlyEvents (latchEvents_onlyEvents { s.withHanded h with sac := latched x } _ _) k h.tag a
  · have hinputs : EventInputs s { s.withHanded h with sac := latched x } := ⟨rfl, rfl, rfl, rfl⟩
    have hevents := latchEvents_inputs x.latch (latched x).latch hinputs
    exact ⟨hevents.enu, hevents.slots⟩

/-! ### GUARD_MODE and RECORDS_FETCH -/

/-- GUARD_MODE with good fields replaces mode and threshold and tests the latch (R164). -/
theorem guardMode_eq {mode threshold : Nat} {m : GuardMode} (hmode : decodeGuardMode mode = some m) (hlow : 65 ≤ threshold)
    (hhigh : threshold ≤ 1024) (s : State) :
    let x : Sac := { s.sac with mode := m, threshold }
    guardMode mode threshold s =
      (.accepted (.guardMode s.sac.mode s.sac.threshold (latched x).latch), ({ s with sac := x } : State).testLatch) := by
  have hfields : ¬ (threshold < 65 ∨ 1024 < threshold) := by omega
  simp [guardMode, hmode, hfields]

/-- RECORDS_FETCH removes and returns the oldest records, 1 to 8 of them as far as there are, and tests the latch (R166). -/
theorem recordsFetch_eq (count : Nat) (s : State) :
    let n := max 1 (min count 8)
    recordsFetch count s =
      (.accepted (.records (s.sac.records.take n) (s.sac.records.drop n).length),
        ({ s with sac := { s.sac with records := s.sac.records.drop n } } : State).testLatch) := by
  simp [recordsFetch, clamp, latched]

/-- A request that a sweep does not refuse, taken: its block's act, then its reply (R46). -/
theorem serve_inSweep {s : State} {c : Instr} {h : Handed} (ht : s.takes? c = some h) (k : Byte)
    (act : Count → State → Answer × State) :
    s.serve c k true act = (act h.arrival (s.withHanded h)).2.place k h.tag (act h.arrival (s.withHanded h)).1 := by
  unfold State.serve
  rw [ht]
  simp

theorem exec_guardMode {s : State} {h : Handed} {mode threshold : Nat} (ht : Taken s (.guardMode mode threshold) h) :
    exec (.guardMode mode threshold) s =
      .next ((guardMode mode threshold (s.withHanded h)).2.place 0x32 h.tag (guardMode mode threshold (s.withHanded h)).1) :=
  congrArg _ (serve_taken ht 0x32 false fun _ => guardMode mode threshold)

theorem exec_recordsFetch {s : State} {h : Handed} {count : Nat} (ht : s.takes? (.recordsFetch count) = some h) :
    exec (.recordsFetch count) s =
      .next ((recordsFetch count (s.withHanded h)).2.place 0x41 h.tag (recordsFetch count (s.withHanded h)).1) :=
  congrArg _ (serve_inSweep ht 0x41 fun _ => recordsFetch count)

/-- Settles O54, by the request: each replaces part of SAC and tests the latch. -/
theorem guardModeAndFetchTestTheLatch : Obligations.GuardModeAndFetchTestTheLatch := by
  refine ⟨fun s h mode threshold m ht hmode hlow hhigh => ?guardMode, fun s h count ht => ?recordsFetch⟩
  case guardMode =>
    refine ⟨_, exec_guardMode ht, ?_⟩
    rw [guardMode_eq hmode hlow hhigh]
    exact testLatch_place s h { s.sac with mode := m, threshold } 0x32 _
  case recordsFetch =>
    refine ⟨_, exec_recordsFetch ht, ?_⟩
    rw [recordsFetch_eq]
    exact testLatch_place s h { s.sac with records := s.sac.records.drop (max 1 (min count 8)) } 0x41 _

end Sys2Proof.Proofs.ChargeRecords

/-! ## EVENT_CONFIG: enables, priorities and routes of the kinds, and the elevated kind (R170 to R172) -/

namespace Sys2Proof.Proofs.EventKinds

open Sys2Proof.Machine

/-! ### Kinds and their codes (R195) -/

theorem decodeKind_kindCode (k : Kind) : decodeKind (kindCode k).val = some k := by cases k <;> rfl

theorem allKinds_nodup : allKinds.Nodup := by decide

theorem decodeKind_eq_some_iff {n : Nat} {k : Kind} : decodeKind n = some k ↔ n = (kindCode k).val := by
  constructor
  · intro h
    have hlt : n < allKinds.length := (List.getElem?_eq_some_iff.1 h).1
    exact (List.getElem?_inj hlt allKinds_nodup).1 (h.trans (decodeKind_kindCode k).symm)
  · rintro rfl
    exact decodeKind_kindCode k

theorem alwaysEnabled_iff (k : Kind) : k.alwaysEnabled = true ↔ k = .startup ∨ k = .noticeOverflow := by
  cases k <;> decide

/-- Code 0xFF is no kind, so the two readings of an elevated kind exclude each other (R171). -/
theorem readElevated_eq {n : Nat} {el : Option Kind} (h : n = 255 ∧ el = none ∨ ∃ k, decodeKind n = some k ∧ el = some k) :
    readElevated n = some el := by
  obtain ⟨rfl, rfl⟩ | ⟨k, hk, rfl⟩ := h
  · rfl
  · have hne : n ≠ 255 := by
      rintro rfl
      cases hk
    simp [readElevated, hne, hk]

/-! ### The entries of a request (R171, R172 step 2) -/

/-- An entry R171 accepts: a kind, a priority up to 7, and a route that only a trigger-capable kind takes to the slots. -/
def GoodEntry (e : Nat × Nat × Nat) : Prop :=
  ∃ k r, decodeKind e.1 = some k ∧ e.2.1 ≤ 7 ∧ decodeRoute e.2.2 = some r ∧ (r = .notice ∨ k.triggerCapable = true)

/-- Good entries that name each kind once, none of them seen before, pass R171's checks. -/
theorem badKindEntry_eq_none {entries : List (Nat × Nat × Nat)} (hgood : ∀ e ∈ entries, GoodEntry e)
    (hnodup : (entries.map Prod.fst).Nodup) (i : Nat) {seen : List Nat} (hseen : ∀ e ∈ entries, e.1 ∉ seen) :
    badKindEntry i seen entries = none := by
  induction entries generalizing i seen with
  | nil => rfl
  | cons e es ih =>
    obtain ⟨c, p, n⟩ := e
    obtain ⟨⟨k, r, hk, hp, hr, hroute⟩, hgood⟩ := List.forall_mem_cons.1 hgood
    obtain ⟨hnew, hseen⟩ := List.forall_mem_cons.1 hseen
    obtain ⟨hc, hnodup⟩ := List.nodup_cons.1 hnodup
    have hp : ¬ 7 < p := Nat.not_lt.2 hp
    have hroute : ¬ (r ≠ .notice ∧ k.triggerCapable = false) := by
      rintro ⟨hne, hcap⟩
      simp [hne, hcap] at hroute
    have hseen : ∀ e ∈ es, e.1 ∉ c :: seen := fun e he =>
      have hmem : e.1 ∈ es.map Prod.fst := List.mem_map_of_mem he
      List.not_mem_cons_of_ne_of_not_mem (fun hec => hc (hec ▸ hmem)) (hseen e he)
    dsimp only at hk hr hnew
    unfold badKindEntry
    simp only [hk, hr, if_neg hp, if_neg hroute, if_neg hnew]
    exact ih hgood hnodup (i + 1) hseen

theorem entryFor_eq_none {k : Kind} {entries : List (Nat × Nat × Nat)} (h : ∀ e ∈ entries, decodeKind e.1 ≠ some k) :
    entryFor k entries = none := by
  refine List.find?_eq_none.2 fun e he hcode => h e he ?_
  exact decodeKind_eq_some_iff.2 (eq_of_beq hcode)

theorem entryFor_some {k : Kind} {entries : List (Nat × Nat × Nat)} {e : Nat × Nat × Nat} (h : entryFor k entries = some e) :
    e ∈ entries ∧ e.1 = (kindCode k).val :=
  ⟨List.mem_of_find?_eq_some h, by simpa using List.find?_some h⟩

/-- Where each kind is named once, a kind's entry is the one that names it. -/
theorem entryFor_eq_some {k : Kind} {entries : List (Nat × Nat × Nat)} (hnodup : (entries.map Prod.fst).Nodup)
    {e : Nat × Nat × Nat} (he : e ∈ entries) (hk : decodeKind e.1 = some k) : entryFor k entries = some e := by
  have hcode : e.1 = (kindCode k).val := decodeKind_eq_some_iff.1 hk
  cases hfind : entryFor k entries with
  | none => exact absurd (beq_iff_eq.2 hcode) (List.find?_eq_none.1 hfind e he)
  | some e' =>
    obtain ⟨he', hcode'⟩ := entryFor_some hfind
    rw [List.inj_on_of_nodup_map hnodup he' he (hcode'.trans hcode.symm)]

/-! ### A kind's new configuration (R172) -/

section KindConfig
variable (m : MaskMode) (mask : BitVec 16) (k : Kind) (c : KindConfig)

theorem newEnable_eq (before : Bool) :
    newEnable m mask k before =
      if k = .startup ∨ k = .noticeOverflow then before
      else (decide (m = .merge) && before) || mask.getLsbD (kindCode k).val := by
  simp only [newEnable, alwaysEnabled_iff]
  cases m <;> simp

theorem newConfig_enable (entries : List (Nat × Nat × Nat)) :
    (newConfig m mask entries k c).enable = newEnable m mask k c.enable := by
  unfold newConfig
  split <;> rfl

theorem newConfig_unnamed {entries : List (Nat × Nat × Nat)} (h : entryFor k entries = none) :
    (newConfig m mask entries k c).priority = c.priority ∧ (newConfig m mask entries k c).route = c.route := by
  simp [newConfig, h]

theorem newConfig_named {entries : List (Nat × Nat × Nat)} {e : Nat × Nat × Nat} (h : entryFor k entries = some e)
    {r : Route} (hr : decodeRoute e.2.2 = some r) :
    (newConfig m mask entries k c).priority = e.2.1 ∧ (newConfig m mask entries k c).route = r := by
  simp [newConfig, h, hr]

end KindConfig

/-! ### EVENT_CONFIG -/

/-- ENU after an accepted EVENT_CONFIG (R172). -/
def configured (m : MaskMode) (mask : BitVec 16) (entries : List (Nat × Nat × Nat)) (el : Option Kind) (e : Enu) : Enu :=
  { e with kinds := e.reconfigured (newConfig m mask entries), elevated := el }

theorem configured_config (m : MaskMode) (mask : BitVec 16) (entries : List (Nat × Nat × Nat)) (el : Option Kind) (e : Enu)
    (k : Kind) : (configured m mask entries el e).config k = newConfig m mask entries k (e.config k) := by
  cases k <;> rfl

theorem eventConfig_eq {mode elevated : Nat} {entries : List (Nat × Nat × Nat)} {m : MaskMode} {el : Option Kind}
    (hmode : decodeMaskMode mode = some m) (hlength : entries.length ≤ 14) (hentries : badKindEntry 0 [] entries = none)
    (hel : readElevated elevated = some el) (mask : BitVec 16) (s : State) :
    eventConfig mode mask elevated entries s =
      (.accepted (.events (configured m mask entries el s.enu).enabledMask el),
        { s with enu := configured m mask entries el s.enu }) := by
  simp only [eventConfig, hmode, hentries, hel, if_neg (Nat.not_lt.2 hlength)]
  rfl

theorem exec_eventConfig {s : State} {h : Handed} {mode elevated : Nat} {mask : BitVec 16} {entries : List (Nat × Nat × Nat)}
    (ht : Taken s (.eventConfig mode mask elevated entries) h) :
    exec (.eventConfig mode mask elevated entries) s =
      .next ((eventConfig mode mask elevated entries (s.withHanded h)).2.place 0x38 h.tag
        (eventConfig mode mask elevated entries (s.withHanded h)).1) :=
  congrArg _ (serve_taken ht 0x38 false fun _ => eventConfig mode mask elevated entries)

/-- Settles O55, from the configuration that R172 gives each kind. -/
theorem eventConfigSetsTheKinds : Obligations.EventConfigSetsTheKinds := by
  intro s h mode elevated mask entries m el ht hmode hlength hnodup hgood hel
  have hentries : badKindEntry 0 [] entries = none :=
    badKindEntry_eq_none hgood hnodup 0 fun _ _ => List.not_mem_nil
  refine ⟨_, exec_eventConfig ht, ?_⟩
  rw [eventConfig_eq hmode hlength hentries (readElevated_eq hel)]
  refine ⟨rfl, rfl, rfl, fun k => ?enable, fun k hk => ?unnamed, fun e he k hk => ?named, rfl, rfl, rfl, rfl, rfl, rfl⟩
  case enable =>
    calc ((configured m mask entries el s.enu).config k).enable
      _ = newEnable m mask k (s.enu.config k).enable := by rw [configured_config, newConfig_enable]
      _ = _ := newEnable_eq m mask k _
  case unnamed =>
    rw [State.place_enu, configured_config]
    exact newConfig_unnamed m mask k _ (entryFor_eq_none hk)
  case named =>
    obtain ⟨_, r, _, _, hr, _⟩ := hgood e he
    rw [State.place_enu, configured_config, hr, Option.some_inj]
    exact newConfig_named m mask k _ (entryFor_eq_some hnodup he hk) hr

end Sys2Proof.Proofs.EventKinds


/-! ## Circuits: busy and idle (R7), and what a release and the drain test make of a group (R12, R13, R20, R21, R27) -/

namespace Sys2Proof.Proofs.Circuits

open Sys2Proof.Machine Sys2Proof.Proofs.ChargeRecords

/-! ### Busy and idle -/

/-- Replacing one element moves a count exactly by the old and the new element. -/
theorem countP_set_add {α : Type} (p : α → Bool) {l : List α} {m : Nat} {a : α} (h : l[m]? = some a) (b : α) :
    (l.set m b).countP p + (if p a then 1 else 0) = l.countP p + (if p b then 1 else 0) := by
  obtain ⟨hm, rfl⟩ := List.getElem?_eq_some_iff.1 h
  have hmem : p l[m] = true → 0 < l.countP p := fun hp => List.countP_pos_iff.2 ⟨_, List.getElem_mem hm, hp⟩
  rw [List.countP_set hm]
  by_cases hp : p l[m] = true
  · have := hmem hp
    simp only [hp, if_true]
    omega
  · simp only [hp, Bool.false_eq_true, if_false]
    omega

/-- A busy circuit is not IDLE, so busy and idle count different members (1.4). -/
theorem busy_add_idle_le (r : Group) : r.busy + r.idle ≤ r.size := by
  have hidle : r.idle ≤ r.members.countP (fun c => !c.state.isBusy) :=
    List.countP_mono_left fun c _ hc => by rw [eq_of_beq hc]; rfl
  have hall := List.length_eq_countP_add_countP (fun c : Circuit => c.state.isBusy) (l := r.members)
  have hnot : r.members.countP (fun c => !c.state.isBusy) = r.members.countP (fun c => decide ¬c.state.isBusy = true) :=
    congrArg (r.members.countP ·) (funext fun c => by cases c.state.isBusy <;> rfl)
  unfold Group.busy Group.size
  omega

/-- Settles O44, from the count of a list in which one element is replaced. -/
theorem busyAndIdleFollowTheCircuits : Obligations.BusyAndIdleFollowTheCircuits := by
  intro r m c d hc
  refine ⟨countP_set_add (fun c : Circuit => c.state.isBusy) hc d, ?_, by simp [Group.size, Group.setCircuit], busy_add_idle_le r⟩
  simpa [Group.idle, Group.setCircuit] using countP_set_add (fun c : Circuit => c.state == .idle) hc d

/-- A member replaced by one that is not busy leaves no more busy members. -/
theorem busy_setCircuit_le {r : Group} {m : Nat} {c d : Circuit} (hc : r.members[m]? = some c)
    (hd : d.state.isBusy = true → c.state.isBusy = true) : (r.setCircuit m d).busy ≤ r.busy := by
  obtain ⟨hbusy, -⟩ := busyAndIdleFollowTheCircuits r m c d hc
  split_ifs at hbusy with h1 h2 <;> first | omega | exact absurd (hd ‹_›) ‹_›

/-- A member replaced by a busy one leaves no fewer busy members. -/
theorem busy_le_setCircuit {r : Group} {m : Nat} {c d : Circuit} (hc : r.members[m]? = some c)
    (hd : c.state.isBusy = true → d.state.isBusy = true) : r.busy ≤ (r.setCircuit m d).busy := by
  obtain ⟨hbusy, -⟩ := busyAndIdleFollowTheCircuits r m c d hc
  split_ifs at hbusy with h1 h2 <;> first | omega | exact absurd (hd ‹_›) ‹_›

/-! ### Writes of one entry, and the events around them -/

/-- The later of two writes of one entry counts. -/
theorem tput_tput {α : Type} (t : Table α) (n : Nat) (x y : α) : tput (tput t n x) n y = tput t n y := by
  induction t with
  | nil => simp [tput]
  | cons e t ih =>
    obtain ⟨j, v⟩ := e
    by_cases hlt : n < j
    · simp [tput, hlt]
    · by_cases heq : j = n
      · simp [tput, heq]
      · simp [tput, hlt, heq, ih]

section Writes
variable (s : State)

@[simp] theorem setGroup_setGroup (g : Nat) (r r' : Group) : (s.setGroup g r).setGroup g r' = s.setGroup g r' := by
  simp [State.setGroup, tput_tput]

@[simp] theorem setContext_setContext (n : Nat) (x y : Context) :
    (s.setContext n x).setContext n y = s.setContext n y := by
  simp [State.setContext, tput_tput]

end Writes

/-- What an event writes is decided by what it reads: it writes the same into every state that agrees on that (R173). -/
theorem raise_eq_of_inputs {s t : State} (h : EventInputs s t) (e : Event) :
    t.raise e = { t with rse := { t.rse with slots := (s.raise e).rse.slots }, enu := (s.raise e).enu } := by
  have hsame := raise_inputs h e
  obtain ⟨slots, notices, ht⟩ := raise_eventOnly t e
  rw [← hsame.enu, ← hsame.slots, ht]

/-- Raising an event and writing a group's record may be done in either order. -/
theorem raise_setGroup (s : State) (g : Nat) (r : Group) (e : Event) :
    (s.setGroup g r).raise e = (s.raise e).setGroup g r :=
  (raise_eq_of_inputs (s := s) (t := s.setGroup g r) ⟨rfl, rfl, rfl, rfl⟩ e).trans
    (congrArg (State.setGroup g r) (raise_eq_of_inputs (s := s) (t := s) ⟨rfl, rfl, rfl, rfl⟩ e)).symm

/-! ### Reads of circuits -/

section Reads
variable {s : State} {g m : Nat} {r : Group} {c : Circuit}

theorem circuit?_eq_some_iff : s.circuit? g m = some c ↔ ∃ r, s.group? g = some r ∧ r.members[m]? = some c :=
  Option.bind_eq_some_iff

theorem circuit?_eq (hr : s.group? g = some r) : s.circuit? g m = r.members[m]? := by
  simp [State.circuit?, hr]

/-- A change of a defined group's record is a write of the changed record. -/
theorem changeGroup_eq (hr : s.group? g = some r) (f : Group → Group) : s.changeGroup g f = s.setGroup g (f r) := by
  simp [State.changeGroup, hr]

theorem changeGroup_undefined (hr : s.group? g = none) (f : Group → Group) : s.changeGroup g f = s := by
  simp [State.changeGroup, hr]

theorem setCircuit_eq (hr : s.group? g = some r) (m : Nat) (d : Circuit) :
    s.setCircuit g m d = s.setGroup g (r.setCircuit m d) := changeGroup_eq hr _

theorem countTally_eq (hr : s.group? g = some r) (f : Tallies → Tallies) :
    s.countTally g f = s.setGroup g { r with tallies := f r.tallies } := changeGroup_eq hr _

/-- Setting a score writes it, and raises GROUP_LEVEL when the level changes (R72, R76). -/
theorem setScore_eq (hr : s.group? g = some r) (n : Nat) :
    s.setScore g n = if levelOf n = r.level then s.setGroup g { r with score := n }
      else (s.setGroup g { r with score := n }).raise (.groupLevel g (levelOf n)) := by
  simp [State.setScore, hr]

end Reads

/-! ### The drain test (R20, R21) -/

/-- The events of an entry into BLOCKED of a group that was at record `r`: GROUP_LEVEL at a change of level, then GROUP_DRAINED
(R21). -/
def blockedEvents (g : Nat) (r : Group) (s : State) : State :=
  (if r.level = 0 then s else s.raise (.groupLevel g 0)).raise (.groupDrained g)

/-- The entry of a group into BLOCKED: score 0 and sample timer stopped, then the events (R21). -/
theorem enterBlocked_eq {s : State} {g : Nat} {r : Group} (hr : s.group? g = some r) :
    s.enterBlocked g = blockedEvents g r (s.setGroup g { r with state := .blocked, score := 0, sampleTimer := none }) := by
  have hstopped := setGroup_group?_same s g { r with state := .blocked, sampleTimer := none } (lt_of_group? hr)
  unfold State.enterBlocked
  rw [changeGroup_eq hr, setScore_eq hstopped]
  simp [blockedEvents, Group.level, levelOf, eq_comm]

/-- The drain test after a write of a group's record: the group as it is drained, then the events of its drain (R20, R21). -/
theorem drainTest_setGroup {s : State} {g : Nat} (hg : g < Config.groups) (r : Group) :
    (s.setGroup g r).drainTest g = (s.setGroup g (drainedAs r)).drainEvents g r := by
  unfold State.drainTest
  rw [setGroup_group?_same s g r hg]
  by_cases hdrain : r.state = .draining ∧ r.busy = 0
  · simp only [drainedAs, State.drainEvents, if_pos hdrain]
    rw [enterBlocked_eq (setGroup_group?_same s g r hg), setGroup_setGroup]
    rfl
  · simp only [drainedAs, State.drainEvents, if_neg hdrain]

/-! ### The ends of a busy circuit -/

section Ends
variable {s : State} {g m : Nat} {r : Group} {c : Circuit}

/-- An ordinary release of a busy circuit: the circuit released, the group drained where that was its last (R12, R20). -/
theorem ordinaryRelease_eq (hr : s.group? g = some r) (hc : r.members[m]? = some c) (hbusy : c.state.isBusy = true) :
    s.ordinaryRelease g m =
      (s.setGroup g (drainedAs (r.setCircuit m (releasedAs r c)))).drainEvents g (r.setCircuit m (releasedAs r c)) := by
  rw [← drainTest_setGroup (lt_of_group? hr)]
  simp only [State.ordinaryRelease, hr, circuit?_eq hr, hc, hbusy, if_true]
  rfl

/-- A release of a circuit that is not busy, or not there, does nothing. -/
theorem ordinaryRelease_eq_self (h : ∀ c, s.circuit? g m = some c → c.state.isBusy = false) : s.ordinaryRelease g m = s := by
  unfold State.ordinaryRelease
  split
  · rename_i c _ hc
    simp [h c hc]
  · rfl

/-- A fault release of a busy circuit: BLOCKED with its fault mark, the fault counted, CIRCUIT_TROUBLE, then the drain test
(R13, R20). -/
theorem faultRelease_eq (hr : s.group? g = some r) (hc : r.members[m]? = some c) (hbusy : c.state.isBusy = true) :
    let after : Group := { r.setCircuit m (Circuit.blockedWith true) with
      tallies := { r.tallies with faults := tallyUp r.tallies.faults } }
    s.faultRelease g m =
      (((s.raise (.circuitTrouble g m .fault)).setGroup g (drainedAs after)).drainEvents g after) := by
  have hg := lt_of_group? hr
  intro after
  rw [← drainTest_setGroup hg, ← raise_setGroup]
  simp only [State.faultRelease, circuit?_eq hr, hc, hbusy, if_true, setCircuit_eq hr,
    countTally_eq (setGroup_group?_same s g _ hg), setGroup_setGroup]
  rfl

theorem faultRelease_eq_self (h : ∀ c, s.circuit? g m = some c → c.state.isBusy = false) : s.faultRelease g m = s := by
  unfold State.faultRelease
  split
  · rename_i c hc
    simp [h c hc]
  · rfl

/-- The sweep's end of a busy circuit: IDLE, the group drained where that was its last (R20, R27). -/
theorem sweepCircuit_eq (hr : s.group? g = some r) (hc : r.members[m]? = some c) (hbusy : c.state.isBusy = true) :
    s.sweepCircuit g m =
      (s.setGroup g (drainedAs (r.setCircuit m Circuit.fresh))).drainEvents g (r.setCircuit m Circuit.fresh) := by
  rw [← drainTest_setGroup (lt_of_group? hr)]
  simp only [State.sweepCircuit, circuit?_eq hr, hc, hbusy, if_true, setCircuit_eq hr]

theorem sweepCircuit_eq_self (h : ∀ c, s.circuit? g m = some c → c.state.isBusy = false) : s.sweepCircuit g m = s := by
  unfold State.sweepCircuit
  split
  · rename_i c hc
    simp [h c hc]
  · rfl

end Ends

end Sys2Proof.Proofs.Circuits


/-! ## What a command can do: every command's effect is a run of basic changes -/

namespace Sys2Proof.Proofs.Steps

open Sys2Proof.Machine Sys2Proof.Proofs.ChargeRecords Sys2Proof.Proofs.Circuits

/-! ### The basic changes -/

/-- A record may replace a group's: it keeps the group's run, and is sound when the group was (R2, R20, R21, R72, R73). -/
structure Replaces (r r' : Group) : Prop where
  first : r'.first = r.first
  size : r'.size = r.size
  sound : r.sound → r'.sound

/-- A context's call is within its budget, if it is routed (R31). -/
def ProgressHeld (c : Context) : Prop := ∀ g, c.progress = some g → g.withinBudget

/-- An account is locked exactly when its answered legs count is nonzero (R148). -/
def LockAgrees (a : Account) : Prop := a.locked = true ↔ a.answered ≠ 0

/-- Both accounts of a carrier agree with their locks (R148). -/
def LocksAgree (c : Carrier) : Prop := ∀ d, LockAgrees (c.account d)

/-- A basic change of the blocks, with what the rules keep about the entry changed. LNK keeps all but its tallies, and the
monotonic count stands. -/
inductive Move (s : State) : State → Prop
  | note (e : Event) : Move s (s.note e)
  | slots (v : Vector Slot 16) : Move s { s with rse := { s.rse with slots := v } }
  | group {g : Nat} {r r' : Group} (hr : s.group? g = some r) (h : Replaces r r') : Move s (s.setGroup g r')
  | define {g : Nat} {r : Group} (hsound : r.sound) (hpos : 0 < r.size) (hrun : r.first + r.size ≤ Config.circuits)
      (hdisjoint : overlapsOther g r.first r.size s.ctb.groups = false) : Move s (s.setGroup g r)
  | delete (g : Nat) : Move s (s.deleteGroup g)
  | groups {f : Group → Group} (h : ∀ r, Replaces r (f r)) : Move s (s.mapGroups f)
  | context {n : Nat} {c : Context} (h : (∀ b, s.context? n = some b → ProgressHeld b) → ProgressHeld c) :
      Move s (s.setContext n c)
  | free (n : Nat) : Move s (s.freeContext n)
  | dest {i : Nat} {d d' : Dest} (hd : (i, d) ∈ s.rse.dests) (h : d'.digits = d.digits) : Move s (s.setDest i d')
  | newDest {i : Nat} {d : Dest} (h : ∀ e ∈ s.rse.dests, e.2.digits ≠ d.digits) : Move s (s.setDest i d)
  | clearDest (i : Nat) : Move s (s.clearDest i)
  | dests {f : Dest → Dest} (h : ∀ d, (f d).digits = d.digits) :
      Move s { s with rse := { s.rse with dests := tmap f s.rse.dests } }
  | list (l : Nat) (es : List RouteEntry) : Move s { s with rse := { s.rse with lists := tput s.rse.lists l es } }
  | sweep (w : Option Sweep) : Move s (s.setSweep w)
  | carrier {i : Fin 63} {c : Carrier} (h : LocksAgree s.sac.carriers[i] → LocksAgree c) : Move s (s.setCarrier i c)
  | sac {x : Sac} (h : x.carriers = s.sac.carriers) : Move s { s with sac := x }
  | rte (x : Rte) : Move s { s with rte := x }
  | calendar {c : Clk} (h : c.count = s.clk.count) : Move s { s with clk := c }
  | kinds (k : Vector KindConfig 14) (el : Option Kind) : Move s { s with enu := { s.enu with kinds := k, elevated := el } }
  | forget : Move s { s with enu := { s.enu with notices := [] } }
  | tallies (a b c : Nat) : Move s { s with lnk := { s.lnk with badCheck := a, malformed := b, overruns := c } }

/-- A run of basic changes. -/
abbrev Moves : State → State → Prop := Relation.ReflTransGen Move

theorem Moves.refl {s : State} : Moves s s := Relation.ReflTransGen.refl

theorem Move.moves {s t : State} (h : Move s t) : Moves s t := Relation.ReflTransGen.single h

/-- The last change of a run first, so that its state fixes the one before. -/
theorem Moves.after {s t u : State} (hlast : Moves t u) (h : Moves s t) : Moves s u := h.trans hlast

/-! ### Events -/

theorem note_moves (s : State) (e : Event) : Moves s (s.note e) := (Move.note e).moves

theorem changeSlot_moves (s : State) (i : Fin 16) (new : SlotState) (cause : OverlayCause) :
    Moves s (s.changeSlot i new cause) :=
  (Move.slots _).moves.trans (note_moves _ _)

theorem evalSlot_moves (s : State) (e : Event) (i : Fin 16) : Moves s (s.evalSlot e i) := by
  unfold State.evalSlot
  dsimp only
  split
  · exact changeSlot_moves s i _ _
  · exact changeSlot_moves s i _ _
  · exact Moves.refl

theorem raise_moves (s : State) (e : Event) : Moves s (s.raise e) := by
  refine (note_moves s e).trans ?_
  rw [State.raise, State.handToSlots]
  split
  · exact List.foldlRecOn (motive := Moves (s.note e)) _ _ Moves.refl fun _ hu i _ => hu.trans (evalSlot_moves _ e i)
  · exact Moves.refl

/-! ### Groups -/

section Replacement
variable {r r' : Group}

/-- A change that keeps state, score and timer, and no busy circuit of a BLOCKED group added and none of a DRAINING one removed. -/
theorem Replaces.of_busy (hfirst : r'.first = r.first) (hsize : r'.size = r.size) (hstate : r'.state = r.state)
    (hscore : r'.score = r.score) (htimer : r'.sampleTimer = r.sampleTimer)
    (hblocked : r.state = .blocked → r'.busy ≤ r.busy) (hdraining : r.state = .draining → r.busy ≤ r'.busy) :
    Replaces r r' := by
  refine ⟨hfirst, hsize, fun ⟨hle, hb, hd, ht⟩ => ⟨by omega, fun h => ?_, fun h => ?_, fun h => ?_⟩⟩
  · obtain ⟨hbusy, h0, hnone⟩ := hb (hstate ▸ h)
    have := hblocked (hstate ▸ h)
    exact ⟨by omega, by omega, htimer.trans hnone⟩
  · have := hd (hstate ▸ h)
    have := hdraining (hstate ▸ h)
    omega
  · rw [htimer]
    exact ht (hstate ▸ h)

theorem Replaces.refl : Replaces r r := ⟨rfl, rfl, id⟩

/-- A change of the tallies or of the rotate pointer alone. -/
theorem Replaces.counted (t : Tallies) (n : Nat) : Replaces r { r with tallies := t, rotate := n } := ⟨rfl, rfl, id⟩

/-- A new score of a group that is not BLOCKED, or is left with score 0. -/
theorem Replaces.scored {n : Nat} (hn : n ≤ 15) (h : r.state = .blocked → n = 0) : Replaces r { r with score := n } :=
  ⟨rfl, rfl, fun ⟨_, hb, hd, ht⟩ =>
    ⟨hn, fun hs => by obtain ⟨hbusy, _, hnone⟩ := hb hs; exact ⟨hbusy, h hs, hnone⟩, hd, ht⟩⟩

/-- A group from which busy circuits have gone, drained where none is left (R20, R21). -/
theorem Replaces.drained (hfirst : r'.first = r.first) (hsize : r'.size = r.size) (hstate : r'.state = r.state)
    (hscore : r'.score = r.score) (htimer : r'.sampleTimer = r.sampleTimer) (hbusy : r'.busy ≤ r.busy) :
    Replaces r (drainedAs r') := by
  unfold drainedAs
  split_ifs with hdrain
  · refine ⟨hfirst, hsize, fun _ => ⟨Nat.zero_le _, fun _ => ⟨hdrain.2, rfl, rfl⟩, ?_, ?_⟩⟩ <;> simp
  · refine ⟨hfirst, hsize, fun ⟨hle, hb, hd, ht⟩ => ⟨by omega, fun h => ?_, fun h => ?_, fun h => ?_⟩⟩
    · obtain ⟨h0, hs0, hnone⟩ := hb (hstate ▸ h)
      exact ⟨by omega, by omega, htimer.trans hnone⟩
    · exact Nat.pos_of_ne_zero fun h0 => hdrain ⟨h, h0⟩
    · rw [htimer]
      exact ht (hstate ▸ h)

end Replacement

theorem size_setCircuit (r : Group) (m : Nat) (c : Circuit) : (r.setCircuit m c).size = r.size := by
  simp [Group.size, Group.setCircuit]

/-- A circuit replaced by one that is busy or not as it was. -/
theorem Replaces.circuit {r : Group} {m : Nat} {c d : Circuit} (hc : r.members[m]? = some c)
    (hd : d.state.isBusy = c.state.isBusy) : Replaces r (r.setCircuit m d) :=
  .of_busy rfl (size_setCircuit r m d) rfl rfl rfl (fun _ => busy_setCircuit_le hc (by simp [hd]))
    fun _ => busy_le_setCircuit hc (by simp [hd])

/-- A circuit seized in a group that is not BLOCKED. -/
theorem Replaces.seized {r : Group} {m : Nat} {c d : Circuit} (hc : r.members[m]? = some c) (hstate : r.state ≠ .blocked)
    (hd : d.state.isBusy = true) : Replaces r (r.setCircuit m d) :=
  .of_busy rfl (size_setCircuit r m d) rfl rfl rfl (fun h => absurd h hstate) fun _ => busy_le_setCircuit hc fun _ => hd

/-- A busy circuit brought to an end, the group drained where that was its last. -/
theorem Replaces.released {r : Group} {m : Nat} {c d : Circuit} (hc : r.members[m]? = some c)
    (hd : d.state.isBusy = false) (t : Tallies) : Replaces r (drainedAs { r.setCircuit m d with tallies := t }) :=
  .drained rfl (size_setCircuit r m d) rfl rfl rfl (busy_setCircuit_le hc (by simp [hd]))

/-- Every circuit changed, each as busy as it was. -/
theorem Replaces.members {r : Group} {f : Circuit → Circuit} (hf : ∀ c, (f c).state.isBusy = c.state.isBusy) :
    Replaces r { r with members := r.members.map f } := by
  have hbusy : Group.busy { r with members := r.members.map f } = r.busy := by
    simp [Group.busy, List.countP_map, Function.comp_def, hf]
  exact .of_busy rfl (by simp [Group.size]) rfl rfl rfl (fun _ => hbusy.le) fun _ => hbusy.ge

section Groups
variable {s : State} {g m : Nat}

theorem setGroup_moves {r r' : Group} (hr : s.group? g = some r) (h : Replaces r r') : Moves s (s.setGroup g r') :=
  (Move.group hr h).moves

theorem changeGroup_moves {f : Group → Group} (h : ∀ r, s.group? g = some r → Replaces r (f r)) :
    Moves s (s.changeGroup g f) := by
  cases hr : s.group? g with
  | none => rw [changeGroup_undefined hr]
  | some r => rw [changeGroup_eq hr]; exact setGroup_moves hr (h r hr)

theorem countTally_moves (s : State) (g : Nat) (f : Tallies → Tallies) : Moves s (s.countTally g f) :=
  changeGroup_moves fun _ _ => .counted _ _

theorem setScore_moves {n : Nat} (h : ∀ r, s.group? g = some r → Replaces r { r with score := n }) :
    Moves s (s.setScore g n) := by
  cases hr : s.group? g with
  | none => simp only [State.setScore, hr]; exact Moves.refl
  | some r =>
    rw [setScore_eq hr]
    split_ifs
    · exact setGroup_moves hr (h r hr)
    · exact (setGroup_moves hr (h r hr)).trans (raise_moves _ _)

theorem drainEvents_moves (s : State) (g : Nat) (r : Group) : Moves s (s.drainEvents g r) := by
  unfold State.drainEvents
  split_ifs
  · exact raise_moves _ _
  · exact (raise_moves _ _).trans (raise_moves _ _)
  · exact Moves.refl

theorem releasedAs_not_busy (r : Group) (c : Circuit) : (releasedAs r c).state.isBusy = false := by
  unfold releasedAs
  split_ifs <;> rfl

/-- A circuit is busy, or nothing at its place is. -/
theorem busy_or_not (s : State) (g m : Nat) :
    (∃ r c, s.group? g = some r ∧ r.members[m]? = some c ∧ c.state.isBusy = true) ∨
      ∀ c, s.circuit? g m = some c → c.state.isBusy = false := by
  by_cases h : ∃ r c, s.group? g = some r ∧ r.members[m]? = some c ∧ c.state.isBusy = true
  · exact .inl h
  · refine .inr fun c hc => ?_
    obtain ⟨r, hr, hm⟩ := circuit?_eq_some_iff.1 hc
    exact Bool.eq_false_iff.2 fun hb => h ⟨r, c, hr, hm, hb⟩

theorem ordinaryRelease_moves (s : State) (g m : Nat) : Moves s (s.ordinaryRelease g m) := by
  rcases busy_or_not s g m with ⟨r, c, hr, hc, hbusy⟩ | hidle
  · rw [ordinaryRelease_eq hr hc hbusy]
    exact (setGroup_moves hr (.released hc (releasedAs_not_busy r c) r.tallies)).trans (drainEvents_moves _ _ _)
  · rw [ordinaryRelease_eq_self hidle]

theorem faultRelease_moves (s : State) (g m : Nat) : Moves s (s.faultRelease g m) := by
  rcases busy_or_not s g m with ⟨r, c, hr, hc, hbusy⟩ | hidle
  · rw [faultRelease_eq hr hc hbusy]
    have hr' : (s.raise (.circuitTrouble g m .fault)).group? g = some r := by rw [raise_group?, hr]
    exact ((raise_moves _ _).trans (setGroup_moves hr' (.released hc rfl _))).trans (drainEvents_moves _ _ _)
  · rw [faultRelease_eq_self hidle]

theorem sweepCircuit_moves (s : State) (g m : Nat) : Moves s (s.sweepCircuit g m) := by
  rcases busy_or_not s g m with ⟨r, c, hr, hc, hbusy⟩ | hidle
  · rw [sweepCircuit_eq hr hc hbusy]
    exact (setGroup_moves hr (.released hc rfl r.tallies)).trans (drainEvents_moves _ _ _)
  · rw [sweepCircuit_eq_self hidle]

theorem failCircuit_moves (s : State) (cause : FailCause) (g m : Nat) : Moves s (s.failCircuit cause g m) := by
  cases cause with
  | circuitFault => exact faultRelease_moves s g m
  | farCongestion => exact ordinaryRelease_moves s g m
  | farRefused => exact ordinaryRelease_moves s g m

theorem releaseLegs_moves (s : State) (c : Context) : Moves s (s.releaseLegs c) := by
  unfold State.releaseLegs
  dsimp only
  split
  · exact (ordinaryRelease_moves _ _ _).trans (ordinaryRelease_moves _ _ _)
  · exact ordinaryRelease_moves _ _ _

theorem sweepLegs_moves (s : State) (c : Context) : Moves s (s.sweepLegs c) := by
  unfold State.sweepLegs
  dsimp only
  split
  · exact (sweepCircuit_moves _ _ _).trans (sweepCircuit_moves _ _ _)
  · exact sweepCircuit_moves _ _ _

end Groups

/-! ### Contexts and SAC -/

section Contexts
variable {s : State} {n : Nat}

theorem setContext_moves {c c' : Context} (hc : s.context? n = some c) (h : ProgressHeld c → ProgressHeld c') :
    Moves s (s.setContext n c') := (Move.context fun hb => h (hb c hc)).moves

theorem changeContext_moves {f : Context → Context}
    (h : ∀ c, s.context? n = some c → ProgressHeld c → ProgressHeld (f c)) : Moves s (s.changeContext n f) := by
  unfold State.changeContext
  split
  · rename_i c hc
    exact setContext_moves hc (h c hc)
  · exact Moves.refl

theorem sac_moves (s : State) (x : Sac) (h : x.carriers = s.sac.carriers) : Moves s { s with sac := x } := (Move.sac h).moves

theorem settleGuard_moves (s : State) (b : Bool) : Moves s (s.settleGuard b) := by
  cases b
  · exact Moves.refl
  · exact sac_moves s { s.sac with guarded := s.sac.guarded - 1 } rfl

theorem admitLeg_moves (s : State) (b : Bool) : Moves s (s.admitLeg b) := by
  cases b
  · exact Moves.refl
  · exact sac_moves s { s.sac with guarded := s.sac.guarded + 1 } rfl

end Contexts

section Accounts
variable {s : State} {i : Fin 63}

theorem changeCarrier_moves {f : Carrier → Carrier} (h : ∀ c, LocksAgree c → LocksAgree (f c)) :
    Moves s (s.changeCarrier i f) := (Move.carrier (h _)).moves

theorem changeAccount_moves {d : LegDir} {f : Account → Account} (h : ∀ a, LockAgrees a → LockAgrees (f a)) :
    Moves s (s.changeAccount i d f) :=
  changeCarrier_moves fun c hc e => by
    have hout := hc .outLeg
    have hin := hc .inLeg
    cases d <;> cases e
    · exact h _ hout
    · exact hin
    · exact hout
    · exact h _ hin

theorem reevaluate_moves (s : State) (i : Fin 63) : Moves s (s.reevaluate i) := by
  unfold State.reevaluate
  dsimp only
  split_ifs
  · exact Moves.refl
  · refine (Move.carrier fun h d => ?_).moves.trans (raise_moves _ _)
    cases d
    · exact h .outLeg
    · exact h .inLeg

theorem testLatch_moves (s : State) : Moves s s.testLatch := by
  unfold State.testLatch
  dsimp only
  split_ifs
  · exact Moves.refl
  · exact (sac_moves s { s.sac with latch := latchTest s.sac.latch s.sac.records.length s.sac.threshold } rfl).trans
      (raise_moves _ _)

/-- A rated leg locks its account and counts as answered (R140). -/
theorem lockAgrees_take (charge billed : Nat) (a : Account) : LockAgrees (a.take charge billed) := by
  simp [LockAgrees, Account.take, tallyUp]

theorem account_moves (s : State) (i : Fin 63) (d : LegDir) (charge billed : Nat) :
    Moves s (s.account i d charge billed) := by
  unfold State.account
  dsimp only
  split_ifs
  · exact (changeAccount_moves fun a _ => lockAgrees_take _ _ a).trans (raise_moves _ _)
  · exact changeAccount_moves fun a _ => lockAgrees_take _ _ a

theorem append_moves (s : State) (r : ChargeRecord) : Moves s (s.append r) :=
  (sac_moves s { s.sac with records := s.sac.records ++ [r] } rfl).trans (testLatch_moves _)

theorem lose_moves (s : State) (i : Fin 63) (r : ChargeRecord) : Moves s (s.lose i r) := by
  unfold State.lose
  exact (changeAccount_moves (f := fun a => { a with lost := tallyUp a.lost }) fun _ h => h).trans (raise_moves _ _)

theorem placeRecord_moves (s : State) (i : Fin 63) (b : Bool) (r : ChargeRecord) : Moves s (s.placeRecord i b r).2 := by
  unfold State.placeRecord
  split_ifs
  · exact (settleGuard_moves s true).trans (append_moves _ _)
  · exact append_moves s r
  · exact lose_moves s i r

theorem nextSequence_moves (s : State) : Moves s s.nextSequence :=
  sac_moves s { s.sac with sequence := s.sac.sequence + 1 } rfl

theorem rateLeg_moves (s : State) (q : BitVec 32) (a r : Count) (cut : Bool) (leg : Leg) :
    Moves s (s.rateLeg q a r cut leg).2 := by
  have hrated := fun charge billed =>
    (account_moves s leg.index leg.direction charge billed).trans (nextSequence_moves _)
  unfold State.rateLeg
  dsimp only
  split
  · exact ((hrated _ _).trans (placeRecord_moves _ _ _ _)).trans (reevaluate_moves _ _)
  · exact (hrated _ _).trans (placeRecord_moves _ _ _ _)

theorem endUnanswered_moves (s : State) (leg : Leg) : Moves s (s.endUnanswered leg).2 := by
  unfold State.endUnanswered
  exact (changeAccount_moves (f := fun a => { a with unanswered := tallyUp a.unanswered }) fun _ h => h).trans
    (settleGuard_moves _ _)

theorem handLegs_moves {f : Leg → State → LegReply × State} (hf : ∀ l s, Moves s (f l s).2) (ls : List Leg) (s : State) :
    Moves s (handLegs f ls s).2 := by
  induction ls generalizing s with
  | nil => exact Moves.refl
  | cons l t ih => exact (hf l s).trans (ih _)

theorem endLegs_moves (s : State) (c : Context) (r : Count) (cut : Bool) : Moves s (s.endLegs c r cut).2 := by
  unfold State.endLegs
  split_ifs
  · exact handLegs_moves (fun l s => rateLeg_moves s _ _ _ _ l) _ _
  · exact handLegs_moves (fun l s => endUnanswered_moves s l) _ _

end Accounts

end Sys2Proof.Proofs.Steps


namespace Sys2Proof.Proofs.Steps

open Sys2Proof.Machine Sys2Proof.Proofs.ChargeRecords Sys2Proof.Proofs.Circuits Sys2Proof.Proofs.TrunkGroups

/-! ### Selections -/

/-- A context may be granted a circuit: its call has an attempt left, and has tried the circuits named (R31, R39, R68). -/
def Ready (n : Nat) (tried : List (Nat × Nat)) (s : State) : Prop :=
  ∀ c, s.context? n = some c → ∀ g, c.progress = some g → g.tried = tried ∧ g.used < g.budget

section Selection
variable {s : State} {n : Nat} {tried : List (Nat × Nat)}

theorem Ready.of_contexts {t : State} (h : Ready n tried s) (hc : t.rse.contexts = s.rse.contexts) : Ready n tried t :=
  fun c hn => h c (by rwa [context?_congr hc] at hn)

theorem Ready.changeContext (h : Ready n tried s) {f : Context → Context} (hf : ∀ c, (f c).progress = c.progress) :
    Ready n tried (s.changeContext n f) := by
  intro c hn g hg
  cases hs : s.context? n with
  | none => simp [State.changeContext, hs] at hn
  | some x =>
    rw [changeContext_context?_same s hs, Option.some_inj] at hn
    subst hn
    exact h x hs g (by rw [← hf x, hg])

/-- A member found by a hunt is there, IDLE, and not tried (R9). -/
theorem eligible_iff {r : Group} {g m : Nat} :
    r.eligible g tried m = true ↔ ∃ c, r.members[m]? = some c ∧ c.state = .idle ∧ (g, m) ∉ tried := by
  unfold Group.eligible
  cases r.members[m]? <;> simp

/-- An untried circuit tried within the budget keeps the call within it (R31). -/
theorem withinBudget_tried {g : Progress} (h : g.withinBudget) (hlt : g.used < g.budget) {x : Nat × Nat} (hx : x ∉ g.tried)
    (resume : Nat) : Progress.withinBudget ⟨g.budget, g.used + 1, g.tried ++ [x], resume⟩ := by
  obtain ⟨h1, h15, _, hlength, hnodup⟩ := h
  refine ⟨h1, h15, hlt, by simp [hlength], ?_⟩
  rw [List.nodup_append]
  exact ⟨hnodup, List.nodup_singleton x, fun a ha b hb hab => hx (by rw [List.mem_singleton.1 hb] at hab; exact hab ▸ ha)⟩

theorem hunt_moves {g : Nat} {r : Group} (hr : s.group? g = some r) (hin : r.state = .inService) :
    Moves s (s.hunt g r n tried).2 := by
  unfold State.hunt
  dsimp only
  split
  · rename_i m hm
    obtain ⟨c, hc, -, -⟩ := eligible_iff.1 (List.find?_some hm)
    have hseized : Replaces r (r.setCircuit m (Circuit.seized r.seizeTimeout n)) := .seized hc (by simp [hin]) rfl
    exact setGroup_moves hr ⟨hseized.first, hseized.size, hseized.sound⟩
  · exact setGroup_moves hr (.counted _ _)

theorem grant_moves (hready : Ready n tried s) (idx : Nat) {e : RouteEntry} (r : Group) {m : Nat} (hm : (e.group, m) ∉ tried) :
    Moves s (s.grant n idx e r m) := by
  unfold State.grant
  refine (admitLeg_moves s _).trans (changeContext_moves fun c hc hheld g hg => ?_)
  obtain ⟨p, hp, rfl⟩ := Option.map_eq_some_iff.1 hg
  have hc' : s.context? n = some c := by rwa [context?_congr (s := s) (by simp)] at hc
  obtain ⟨rfl, hlt⟩ := hready c hc' p hp
  exact withinBudget_tried (hheld p hp) hlt hm idx

theorem raiseBypass_moves (s : State) (n level : Nat) : Moves s (s.raiseBypass n level) :=
  changeContext_moves fun _ _ h => h

/-- An overflow of a group in service raises its score, to at most 15 (R75). -/
theorem overflow_moves {g : Nat} {r r' : Group} (hr : s.group? g = some r') (hin : r'.state = .inService) :
    Moves s (s.overflow n g r) := by
  have hr' : (s.raiseBypass n r.level).group? g = some r' := by rw [group?_congr (s := s) (by simp), hr]
  unfold State.overflow
  refine ((raiseBypass_moves s n _).trans (countTally_moves _ g _)).trans (setScore_moves fun u hu => .scored (by omega) ?_)
  rw [countTally_eq hr', setGroup_group?_same _ _ _ (lt_of_group? hr), Option.some_inj] at hu
  subst hu
  simp [hin]

theorem inRoute_iff {r : Group} : r.inRoute = true ↔ r.direction ≠ .incoming ∧ r.state = .inService := by
  simp [Group.inRoute, bne]

/-- What a hunt makes of the group it looks through: its state, score and carrier stand (R9). -/
theorem hunt_group? {g : Nat} {r : Group} (hr : s.group? g = some r) :
    ∃ r', (s.hunt g r n tried).2.group? g = some r' ∧ r'.state = r.state := by
  unfold State.hunt
  dsimp only
  split <;> exact ⟨_, setGroup_group?_same s g _ (lt_of_group? hr), rfl⟩

theorem examine_moves (hready : Ready n tried s) (idx : Nat) (p : Priority) (e : RouteEntry) :
    Moves s (s.examine n idx p tried e).2 ∧
      ∀ why, (s.examine n idx p tried e).1 = .inl why → Ready n tried (s.examine n idx p tried e).2 := by
  unfold State.examine
  split
  · exact ⟨Moves.refl, fun _ _ => hready⟩
  rename_i r hr
  split_ifs with hin
  · exact ⟨Moves.refl, fun _ _ => hready⟩
  · exact ⟨Moves.refl, fun _ _ => hready⟩
  · exact ⟨Moves.refl, fun _ _ => hready⟩
  · exact ⟨raiseBypass_moves _ _ _, fun _ _ => hready.changeContext fun _ => rfl⟩
  have hserve := (inRoute_iff.1 (by simpa using hin)).2
  have hmoves : Moves s (s.hunt e.group r n tried).2 := hunt_moves hr hserve
  have hcontexts := groupOnly_contexts (hunt_groupOnly e.group r n tried s)
  obtain ⟨r', hr', hstate⟩ := hunt_group? (n := n) (tried := tried) hr
  split <;> rename_i hhunt
  · have hfound := hunt_takes (congrArg Prod.fst hhunt)
    obtain ⟨-, -, -, hm⟩ := eligible_iff.1 (List.find?_some hfound)
    rw [hhunt] at hmoves hcontexts
    exact ⟨hmoves.trans (grant_moves (hready.of_contexts hcontexts) idx r hm), by simp⟩
  · rw [hhunt] at hmoves hcontexts hr'
    have hover := overflow_moves (n := n) (r := r) hr' (hstate.trans hserve)
    refine ⟨hmoves.trans hover, fun _ _ => ?_⟩
    have hbypass : Ready n tried ((_ : State).raiseBypass n r.level) :=
      (hready.of_contexts hcontexts).changeContext fun _ => rfl
    exact hbypass.of_contexts
      ((groupOnly_contexts (setScore_groupOnly _ _ _)).trans (groupOnly_contexts (GroupOnly.countTally _ _ _)))

theorem walk_moves (hready : Ready n tried s) (p : Priority) (idx : Nat) (es : List RouteEntry) (k : Skips) :
    Moves s (s.walk n p tried idx es k).2 := by
  induction es generalizing idx k s with
  | nil => exact Moves.refl
  | cons e t ih =>
    obtain ⟨hmoves, hskip⟩ := examine_moves hready idx p e
    unfold State.walk
    split <;> rename_i hexamine <;> rw [hexamine] at hmoves
    · exact hmoves
    · rw [hexamine] at hskip
      exact hmoves.trans (ih (hskip _ rfl) _ _)

theorem walkList_moves {g : Progress} (hready : Ready n g.tried s) (l : Nat) (p : Priority) :
    Moves s (s.walkList n l p g).2 := walk_moves hready _ _ _ _

theorem farGate_moves {i : Nat} {d : Dest} (hd : (i, d) ∈ s.rse.dests) (p : Priority) : Moves s (s.farGate i d p).2 :=
  (Move.dest (d' := { d with gap := nextGap d.mark d.gap p }) hd rfl).moves

end Selection

/-- A longest match is an entry of the table (R52). -/
theorem matchDest_mem {called : List Nat} {t : Table Dest} {x : Nat × Dest} (h : matchDest called t = some x) : x ∈ t := by
  induction t generalizing x with
  | nil => cases h
  | cons y t ih =>
    obtain ⟨i, d⟩ := y
    unfold matchDest at h
    split at h
    · split_ifs at h
      cases h
      exact List.mem_cons_self
    · rename_i hm
      split_ifs at h <;> cases h
      · exact List.mem_cons_self
      · exact List.mem_cons_of_mem _ (ih hm)

section Selections
variable {s : State} {n : Nat} {c : Context}

/-- A context whose progress is known is ready when an attempt is left (R31). -/
theorem ready_of_progress {g : Progress} (hc : s.context? n = some c) (hg : c.progress = some g) (hlt : g.used < g.budget) :
    Ready n g.tried s := by
  intro x hx y hy
  rw [hc, Option.some_inj] at hx
  subst hx
  rw [hg, Option.some_inj] at hy
  subst hy
  exact ⟨rfl, hlt⟩

theorem firstSelection_moves {g : Progress} (hready : Ready n g.tried s) (c : Context) (called : List Nat) :
    Moves s (s.firstSelection n c g called).2 := by
  unfold State.firstSelection
  split
  · exact Moves.refl
  rename_i i d hd
  have hplaced : Moves s (s.changeContext n fun c => { c with destination := some i }) :=
    changeContext_moves fun _ _ h => h
  have hready' : Ready n g.tried (s.changeContext n fun c => { c with destination := some i }) :=
    hready.changeContext fun _ => rfl
  have hgate := hplaced.trans
    (farGate_moves (i := i) (d := d) (by simpa using matchDest_mem hd) c.priority)
  have hready'' : Ready n g.tried (((s.changeContext n fun c => { c with destination := some i }).farGate i d c.priority).2) :=
    hready'.of_contexts rfl
  dsimp only
  split_ifs
  · exact hgate
  · refine (walkList_moves (hready''.changeContext ?_) _ _).after ((changeContext_moves ?_).after hgate)
    · exact fun _ => rfl
    · exact fun _ _ h => h

theorem crankback_moves (hc : s.context? n = some c) (hmay : c.mayTry = true) : Moves s (s.crankback n c).2 := by
  unfold State.crankback
  split
  · rename_i i l g _ _ hg
    have hlt : g.used < g.budget := by simpa [Context.mayTry, hg] using hmay
    split
    · exact Moves.refl
    · rename_i d hd
      have hgate := farGate_moves (mem_of_tget hd) c.priority
      dsimp only
      split_ifs
      · exact hgate
      · exact hgate.trans (walkList_moves (s := (s.farGate i d c.priority).2) ((ready_of_progress hc hg hlt).of_contexts rfl) _ _)
  · exact Moves.refl

theorem spend_moves (s : State) (n : Nat) (o : Selection) : Moves s (s.spend n o) := by
  unfold State.spend
  split_ifs
  · exact Moves.refl
  · exact changeContext_moves fun _ _ h => h

/-- A selection made anew for a context: a crankback within the budget (R25, R39). -/
def rehunt (n : Nat) (c : Context) (s : State) : Selection × State :=
  if c.mayTry then s.crankback n c else (.overBudget, s)

/-- CONTINUE selects anew, and spends the context when that grants nothing (R35, R39). -/
theorem continueFrom_eq (n : Nat) (c : Context) (s : State) :
    s.continueFrom n c = ((rehunt n c s).1, (rehunt n c s).2.spend n (rehunt n c s).1) := rfl

theorem rehunt_moves (hc : s.context? n = some c) : Moves s (rehunt n c s).2 := by
  unfold rehunt
  split_ifs with hmay
  · exact crankback_moves hc hmay
  · exact Moves.refl

theorem continueFrom_moves (hc : s.context? n = some c) : Moves s (s.continueFrom n c).2 :=
  (spend_moves _ _ _).after (rehunt_moves hc)

end Selections

/-! ### The call requests -/

section Calls
variable (s : State)

theorem setCircuit_moves {g m : Nat} {r : Group} {d : Circuit} (hr : s.group? g = some r) (h : Replaces r (r.setCircuit m d)) :
    Moves s (s.setCircuit g m d) := by
  rw [setCircuit_eq hr]
  exact setGroup_moves hr h

theorem acceptSeizure_moves {g m : Nat} {r : Group} {c : Circuit} (hr : s.group? g = some r) (hc : r.members[m]? = some c)
    (hstate : r.state ≠ .blocked) (q : BitVec 32) (p : Priority) (n : Nat) :
    Moves s (s.acceptSeizure g m r c q p n) := by
  unfold State.acceptSeizure
  exact ((setCircuit_moves s hr (.seized hc hstate rfl)).trans (admitLeg_moves _ _)).trans
    (Move.context fun _ g hg => by cases hg).moves

end Calls

/-! ### The losing context of a glare (R25, R41) -/

/-- Whether a context has a guarded out-leg. -/
def outGuarded (c : Context) : Bool := match c.outLeg with | some o => o.guarded | none => false

/-- A context without its out-leg. -/
def dropped (c : Context) : Context := { c with outLeg := none }

/-- A context's out-leg is removed and its record place given back. -/
def dropOutLeg (n : Nat) (c : Context) (s : State) : State := (s.setContext n (dropped c)).settleGuard (outGuarded c)

/-- A context HALTED with cause GLARE. -/
def haltedByGlare (c : Context) : Context := { c with state := .halted, haltCause := some .glare }

section LosesGlare
variable {s : State} {n : Nat} {c : Context}

/-- The losing context drops its out-leg and selects anew, and is HALTED when that grants nothing. -/
theorem loseGlare_eq (hc : s.context? n = some c) :
    s.loseGlare n =
      ((rehunt n (dropped c) (dropOutLeg n c s)).1,
        if (rehunt n (dropped c) (dropOutLeg n c s)).1.isGrant then (rehunt n (dropped c) (dropOutLeg n c s)).2
        else (rehunt n (dropped c) (dropOutLeg n c s)).2.changeContext n haltedByGlare) := by
  unfold State.loseGlare
  rw [hc]
  rfl

theorem loseGlare_none (hc : s.context? n = none) : s.loseGlare n = (.overBudget, s) := by
  unfold State.loseGlare
  rw [hc]

theorem dropOutLeg_context?_same (s : State) (n : Nat) (c : Context) : (dropOutLeg n c s).context? n = some (dropped c) :=
  (context?_congr (s := s.setContext n (dropped c)) (by rw [dropOutLeg, State.settleGuard_rse]) n).trans
    (setContext_context?_same s n _)

theorem dropOutLeg_moves (hc : s.context? n = some c) : Moves s (dropOutLeg n c s) :=
  (settleGuard_moves _ _).after (setContext_moves hc fun h => h)

theorem loseGlare_moves (s : State) (n : Nat) : Moves s (s.loseGlare n).2 := by
  cases hc : s.context? n with
  | none => rw [loseGlare_none hc]
  | some c =>
    have htried := (dropOutLeg_moves hc).trans (rehunt_moves (dropOutLeg_context?_same s n c))
    rw [loseGlare_eq hc]
    dsimp only
    split_ifs
    · exact htried
    · exact (changeContext_moves (f := haltedByGlare) fun _ _ h => h).after htried

end LosesGlare

/-! ### The call requests -/

section CallRequests
variable (s : State)

theorem yieldGlare_moves {g m : Nat} {r : Group} {c : Circuit} (hr : s.group? g = some r) (hc : r.members[m]? = some c)
    (hstate : r.state ≠ .blocked) (q : BitVec 32) (p : Priority) : Moves s (s.yieldGlare g m r c q p).2 := by
  unfold State.yieldGlare
  split
  · exact Moves.refl
  split_ifs
  · exact Moves.refl
  · dsimp only
    exact (raise_moves _ _).after ((countTally_moves _ _ _).after
      ((loseGlare_moves _ _).after (acceptSeizure_moves s hr hc hstate q p _)))

theorem seizeIn_moves (g m : Nat) (q : BitVec 32) (p : Nat) : Moves s (seizeIn g m q p s).2 := by
  unfold seizeIn
  split
  · exact Moves.refl
  rename_i r hr
  split
  · exact Moves.refl
  rename_i c hc
  split
  · exact Moves.refl
  split
  · exact Moves.refl
  split
  · exact Moves.refl
  rename_i hblocked
  split
  · exact Moves.refl
  · exact Moves.refl
  · exact Moves.refl
  · split_ifs
    · exact countTally_moves s g _
    · exact yieldGlare_moves s hr hc hblocked q _
  -- An IDLE or GUARD circuit is seized when a context is FREE and record room exists.
  all_goals
    split
    · exact Moves.refl
    · split_ifs
      · exact Moves.refl
      · exact acceptSeizure_moves s hr hc hblocked q _ _

theorem route_moves (n budget : Nat) (called : DigitField) : Moves s (route n budget called s).2 := by
  unfold route
  split_ifs
  · exact Moves.refl
  split
  · exact Moves.refl
  split
  · exact Moves.refl
  split_ifs
  · exact Moves.refl
  rename_i digits _ _ c hc _
  have hbudget : 1 ≤ clamp 1 15 budget ∧ clamp 1 15 budget ≤ 15 := by unfold clamp; omega
  have hstart : Moves s (s.setContext n { c with progress := some ⟨clamp 1 15 budget, 0, [], 0⟩ }) :=
    setContext_moves hc fun _ g hg => by
      cases hg
      exact ⟨hbudget.1, hbudget.2, Nat.zero_le _, rfl, List.nodup_nil⟩
  have hready := ready_of_progress (setContext_context?_same s n { c with progress := some ⟨clamp 1 15 budget, 0, [], 0⟩ })
    rfl hbudget.1
  exact (spend_moves _ _ _).after ((firstSelection_moves hready _ digits).after hstart)

theorem continueCall_moves (n : Nat) : Moves s (continueCall n s).2 := by
  unfold continueCall
  split_ifs
  · exact Moves.refl
  split
  · exact Moves.refl
  rename_i c hc
  split_ifs
  · exact Moves.refl
  · exact continueFrom_moves hc

theorem confirmed_isBusy (c : Circuit) : c.confirmed.state.isBusy = c.state.isBusy := by
  unfold Circuit.confirmed
  split_ifs with h
  · rw [h]; rfl
  · rfl

/-- A report's circuit passes when it is a member of a defined group (R32). -/
theorem badCircuit_eq_none {s : State} {gf mf g m : Nat} :
    badCircuit s gf mf g m = none ↔ ∃ r, s.group? g = some r ∧ m < r.size := by
  unfold badCircuit
  cases s.group? g with
  | none => simp
  | some r =>
    by_cases h : r.size ≤ m
    · simp [h]
    · simp [h, Nat.lt_of_not_le h]

/-- A confirmed circuit is a write of one member, where the member is there (R36). -/
theorem modify_eq_set {α : Type} {l : List α} {m : Nat} {a : α} (h : l[m]? = some a) (f : α → α) :
    l.modify m f = l.set m (f a) := by
  rw [List.modify_eq_set_getElem?, h]
  rfl

theorem confirm_moves (n g m : Nat) : Moves s (confirm n g m s).2 := by
  unfold confirm
  split_ifs
  · exact Moves.refl
  split
  · exact Moves.refl
  rename_i hcircuit
  split
  · exact Moves.refl
  dsimp only
  refine (changeContext_moves ?_).after (changeGroup_moves fun r hr => ?_)
  · exact fun _ _ h => h
  obtain ⟨r', hr', hm⟩ := badCircuit_eq_none.1 hcircuit
  cases hr.symm.trans hr'
  rw [modify_eq_set (List.getElem?_eq_getElem hm)]
  exact .circuit (List.getElem?_eq_getElem hm) (confirmed_isBusy _)

theorem failAttempt_moves (cause : FailCause) (n : Nat) (o : OutLeg) : Moves s (s.failAttempt cause n o) := by
  refine (changeContext_moves fun c _ h g hg => ?_).after ((settleGuard_moves _ _).after (failCircuit_moves s cause _ _))
  obtain ⟨p, hp, rfl⟩ := Option.map_eq_some_iff.1 hg
  exact h p hp

theorem failCall_moves (n g m cause again : Nat) : Moves s (failCall n g m cause again s).2 := by
  unfold failCall
  split_ifs
  · exact Moves.refl
  split
  · exact Moves.refl
  · exact Moves.refl
  · exact Moves.refl
  split
  · exact Moves.refl
  dsimp only
  split_ifs
  · split
    · rename_i hc
      exact (continueFrom_moves hc).after (failAttempt_moves s _ n _)
    · exact failAttempt_moves s _ n _
  · exact failAttempt_moves s _ n _

theorem answer_moves (n : Nat) (arrival : Count) : Moves s (answer n arrival s).2 := by
  unfold answer
  split_ifs
  · exact Moves.refl
  split
  · exact Moves.refl
  rename_i c hc
  split_ifs
  · exact Moves.refl
  · exact setContext_moves hc fun h => h

theorem freeContext_moves (n : Nat) : Moves s (s.freeContext n) := (Move.free n).moves

theorem release_moves (n : Nat) (arrival : Count) : Moves s (release n arrival s).2 := by
  unfold release
  split_ifs
  · exact Moves.refl
  split
  · exact Moves.refl
  · exact (freeContext_moves _ n).after ((endLegs_moves _ _ _ _).after (releaseLegs_moves s _))

end CallRequests

end Sys2Proof.Proofs.Steps


namespace Sys2Proof.Proofs.Steps

open Sys2Proof.Machine Sys2Proof.Proofs.ChargeRecords Sys2Proof.Proofs.Circuits Sys2Proof.Proofs.TrunkGroups

/-! ### The requests on groups -/

section GroupRequests
variable (s : State)

theorem enterBlocked_moves {g : Nat} {r : Group} (hr : s.group? g = some r) (hbusy : r.busy = 0) :
    Moves s (s.enterBlocked g) := by
  have hstopped : Replaces r { r with state := .blocked, score := 0, sampleTimer := none } :=
    ⟨rfl, rfl, fun _ => ⟨Nat.zero_le _, fun _ => ⟨hbusy, rfl, rfl⟩, by simp, by simp⟩⟩
  rw [enterBlocked_eq hr, blockedEvents]
  refine (raise_moves _ _).after ?_
  split_ifs
  · exact setGroup_moves hr hstopped
  · exact (raise_moves _ _).after (setGroup_moves hr hstopped)

/-- A new group is BLOCKED with score 0, its timer stopped and every circuit IDLE (R3, R4). -/
theorem newGroup_sound (f : GroupFields) : (newGroup f).sound := by
  have hbusy : (newGroup f).busy = 0 := by
    simp [newGroup, Group.busy, List.countP_eq_zero, Circuit.fresh, CircuitState.isBusy]
  refine ⟨Nat.zero_le _, fun _ => ⟨hbusy, rfl, rfl⟩, ?_, ?_⟩ <;> simp [newGroup]

@[simp] theorem newGroup_size (f : GroupFields) : (newGroup f).size = f.size := by simp [newGroup, Group.size]

theorem groupDefine_moves (f : GroupFields) : Moves s (groupDefine f s).2 := by
  unfold groupDefine
  split
  · exact Moves.refl
  split_ifs with hsize hrun hbusy hover
  · split
    · exact Moves.refl
    · split_ifs
      · exact Moves.refl
      · exact (Move.delete f.group).moves
  · exact Moves.refl
  · exact Moves.refl
  · exact Moves.refl
  · refine (Move.define (newGroup_sound f) ?_ ?_ ?_).moves
    · rw [newGroup_size]; omega
    · rw [newGroup_size]; exact Nat.le_of_not_lt hrun
    · rw [newGroup_size]; exact Bool.eq_false_iff.2 hover

theorem groupBlock_moves (g : Nat) : Moves s (groupBlock g s).2 := by
  unfold groupBlock
  split
  · exact Moves.refl
  rename_i r hr
  dsimp only
  split
  · rename_i hstate
    split_ifs with hbusy
    · exact enterBlocked_moves s hr hbusy
    · exact setGroup_moves hr ⟨rfl, rfl, fun ⟨hle, _, _, ht⟩ =>
        ⟨hle, by simp, fun _ => Nat.pos_of_ne_zero hbusy, fun _ => ht (by simp [hstate])⟩⟩
  · exact Moves.refl
  · exact Moves.refl

theorem unblocked_replaces (r : Group) : Replaces r r.unblocked :=
  ⟨rfl, rfl, fun ⟨hle, _, _, _⟩ => ⟨hle, by simp [Group.unblocked], by simp [Group.unblocked], fun _ => rfl⟩⟩

theorem groupUnblock_moves (g : Nat) : Moves s (groupUnblock g s).2 := by
  unfold groupUnblock
  split
  · exact Moves.refl
  rename_i r hr
  dsimp only
  split
  · exact Moves.refl
  · exact setGroup_moves hr (unblocked_replaces r)
  · exact setGroup_moves hr (unblocked_replaces r)

theorem onCircuit_moves {f : Circuit → Circuit} (hf : ∀ c, (f c).state.isBusy = c.state.isBusy) (g m : Nat) :
    Moves s (onCircuit f g m s).2 := by
  unfold onCircuit
  split
  · exact Moves.refl
  rename_i hr
  split
  · exact Moves.refl
  · rename_i hc
    exact setCircuit_moves s hr (.circuit hc (hf _))

theorem block_isBusy (c : Circuit) : c.block.state.isBusy = c.state.isBusy := by
  unfold Circuit.block
  cases h : c.state <;> simp [h, Circuit.blockedWith, CircuitState.isBusy]

theorem unblock_isBusy (c : Circuit) : c.unblock.state.isBusy = c.state.isBusy := by
  unfold Circuit.unblock
  cases h : c.state <;> simp [h, Circuit.fresh, CircuitState.isBusy]

end GroupRequests

/-! ### The requests on the routing tables and the slots -/

section RouteRequests
variable (s : State)

/-- An entry found by its digits is in the table and has them; none is found only where no entry has them (R50). -/
theorem exactDest_spec (ds : List Nat) (t : Table Dest) :
    (∀ i d, exactDest ds t = some (i, d) → (i, d) ∈ t ∧ d.digits = ds) ∧
      (exactDest ds t = none → ∀ e ∈ t, e.2.digits ≠ ds) := by
  induction t with
  | nil => simp [exactDest]
  | cons e t ih =>
    obtain ⟨j, b⟩ := e
    by_cases hb : b.digits = ds
    · refine ⟨fun i d h => ?_, fun h => ?_⟩
      · simp only [exactDest, hb, if_true, Option.some.injEq, Prod.mk.injEq] at h
        obtain ⟨rfl, rfl⟩ := h
        exact ⟨List.mem_cons_self, hb⟩
      · simp [exactDest, hb] at h
    · simp only [exactDest, hb, if_false]
      refine ⟨fun i d h => ?_, fun h x hx => ?_⟩
      · obtain ⟨hmem, hd⟩ := ih.1 i d h
        exact ⟨List.mem_cons_of_mem _ hmem, hd⟩
      · rcases List.mem_cons.1 hx with rfl | hx
        · exact hb
        · exact ih.2 h x hx

theorem destSet_moves (digits : DigitField) (list : Nat) : Moves s (destSet digits list s).2 := by
  unfold destSet
  split
  · exact Moves.refl
  split_ifs
  · exact Moves.refl
  split
  · rename_i i d hd
    exact (Move.dest (d' := { d with list }) ((exactDest_spec _ _).1 _ _ hd).1 rfl).moves
  rename_i hnone
  split
  · exact (Move.newDest ((exactDest_spec _ _).2 hnone)).moves
  · exact Moves.refl

theorem destClear_moves (digits : DigitField) : Moves s (destClear digits s).2 := by
  unfold destClear
  split
  · exact Moves.refl
  split
  · exact (Move.clearDest _).moves
  · exact Moves.refl

theorem listSet_moves (list : Nat) (entries : List (Nat × Nat)) : Moves s (listSet list entries s).2 := by
  unfold listSet
  split
  · exact Moves.refl
  split
  · exact Moves.refl
  · exact (Move.list _ _).moves

theorem marked_digits (level duration : Nat) (d : Dest) : (d.marked level duration).digits = d.digits := by
  unfold Dest.marked
  split_ifs <;> rfl

theorem farMark_moves (digits : DigitField) (level duration : Nat) : Moves s (farMark digits level duration s).2 := by
  unfold farMark
  split
  · exact Moves.refl
  split_ifs
  · exact Moves.refl
  split
  · exact Moves.refl
  · rename_i hd
    exact (Move.dest ((exactDest_spec _ _).1 _ _ hd).1 (marked_digits level duration _)).moves

theorem setSlot_moves (i : Fin 16) (x : Slot) : Moves s (s.setSlot i x) := (Move.slots _).moves

theorem overlaySet_moves (f : OverlayFields) : Moves s (overlaySet f s).2 := by
  unfold overlaySet
  split
  · split
    · exact Moves.refl
    split
    · split_ifs
      · exact Moves.refl
      · exact setSlot_moves s _ _
    all_goals exact Moves.refl
  · exact Moves.refl

/-- A slot request changes what its act on the slot changes. -/
theorem onSlot_moves {f : Fin 16 → Slot → State → Option State} (hf : ∀ i x s t, f i x s = some t → Moves s t) (n : Nat) :
    Moves s (onSlot n f s).2 := by
  unfold onSlot
  split_ifs
  · split
    · rename_i ht
      exact hf _ _ _ _ ht
    · exact Moves.refl
  · exact Moves.refl

theorem armSlot_moves (i : Fin 16) (x : Slot) (s t : State) (h : armSlot i x s = some t) : Moves s t := by
  unfold armSlot at h
  split at h <;> cases h
  · split_ifs
    · exact changeSlot_moves s i _ _
    · exact setSlot_moves s i _
  · exact Moves.refl
  · exact Moves.refl

theorem fireSlot_moves (i : Fin 16) (x : Slot) (s t : State) (h : fireSlot i x s = some t) : Moves s t := by
  unfold fireSlot at h
  split at h <;> cases h
  · exact changeSlot_moves s i _ _
  · exact Moves.refl

theorem revertSlot_moves (i : Fin 16) (x : Slot) (s t : State) (h : revertSlot i x s = some t) : Moves s t := by
  unfold revertSlot at h
  split at h <;> cases h
  · exact Moves.refl
  · exact changeSlot_moves s i _ _

theorem disarmSlot_moves (i : Fin 16) (x : Slot) (s t : State) (h : disarmSlot i x s = some t) : Moves s t := by
  unfold disarmSlot at h
  split at h <;> cases h
  · exact Moves.refl
  · exact setSlot_moves s i _
  · exact changeSlot_moves s i _ _

end RouteRequests

/-! ### The requests on tariffs, calendar, accounts and events, and QUERY -/

section ServiceRequests
variable (s : State)

theorem setTariff_moves (d : LegDir) (i : Fin 63) (x : Tariff) : Moves s (s.setTariff d i x) := by
  cases d with
  | outLeg => exact (Move.rte { s.rte with outTariffs := s.rte.outTariffs.set i.val x i.isLt }).moves
  | inLeg => exact (Move.rte { s.rte with inTariffs := s.rte.inTariffs.set i.val x i.isLt }).moves

theorem tariffSet_moves (f : TariffFields) : Moves s (tariffSet f s).2 := by
  unfold tariffSet
  split
  · exact Moves.refl
  · exact Moves.refl
  · split_ifs
    · exact Moves.refl
    · exact setTariff_moves s _ _ _
    · exact Moves.refl

theorem calendarSet_moves (day start : Nat) (bs : List (Nat × Nat)) : Moves s (calendarSet day start bs s).2 := by
  unfold calendarSet
  split
  · exact Moves.refl
  rename_i t _
  split
  · exact Moves.refl
  split
  · exact Moves.refl
  · exact (Move.calendar (c := s.clk.setSchedule t ⟨start, bs⟩) (by cases t <;> rfl)).moves

theorem weekSet_moves (days : Vector Nat 7) : Moves s (weekSet days s).2 := by
  unfold weekSet
  split
  · exact Moves.refl
  · exact (Move.calendar (c := { s.clk with week := days.map fun d => (decodeDayType d).getD .work }) rfl).moves

theorem timeSet_moves (weekday ds rest : Nat) : Moves s (timeSet weekday ds rest s).2 := by
  unfold timeSet
  split
  · exact Moves.refl
  · exact (Move.calendar (c := s.clk.setTime weekday ds ((decodeFlag rest).getD false)) rfl).moves

theorem changeLimits_moves {i : Fin 63} {f : Carrier → Carrier} (h : ∀ c, LocksAgree c → LocksAgree (f c)) :
    Moves s (changeLimits i f s).2 :=
  (reevaluate_moves _ i).after (changeCarrier_moves h)

/-- A carrier whose accounts are as they were agrees with its locks as before. -/
theorem LocksAgree.of_accounts {c c' : Carrier} (hout : c'.outAccount = c.outAccount) (hin : c'.inAccount = c.inAccount)
    (h : LocksAgree c) : LocksAgree c' := by
  intro d
  cases d with
  | outLeg => rw [show c'.account .outLeg = c.account .outLeg from hout]; exact h .outLeg
  | inLeg => rw [show c'.account .inLeg = c.account .inLeg from hin]; exact h .inLeg

theorem carrierLimits_moves (carrier watch cap : Nat) : Moves s (carrierLimits carrier watch cap s).2 := by
  unfold carrierLimits
  split
  · exact Moves.refl
  split
  · exact Moves.refl
  · exact changeLimits_moves s fun _ h => h.of_accounts rfl rfl

theorem carrierBar_moves (carrier flag : Nat) : Moves s (carrierBar carrier flag s).2 := by
  unfold carrierBar
  split
  · exact Moves.refl
  · exact Moves.refl
  · exact changeLimits_moves s fun _ h => h.of_accounts rfl rfl

theorem guardMode_moves (mode threshold : Nat) : Moves s (guardMode mode threshold s).2 := by
  unfold guardMode
  split
  · exact Moves.refl
  rename_i m _
  split_ifs
  · exact Moves.refl
  · exact (testLatch_moves _).after (sac_moves s { s.sac with mode := m, threshold } rfl)

theorem eventConfig_moves (mode : Nat) (mask : BitVec 16) (elevated : Nat) (entries : List (Nat × Nat × Nat)) :
    Moves s (eventConfig mode mask elevated entries s).2 := by
  unfold eventConfig
  split
  · exact Moves.refl
  split_ifs
  · exact Moves.refl
  split
  · exact Moves.refl
  · exact Moves.refl
  · exact (Move.kinds _ _).moves

/-- A closed account is unlocked and counts no answered leg (R151). -/
theorem lockAgrees_close (period : Nat) (a : Account) : LockAgrees (a.close period) := by simp [LockAgrees, Account.close]

theorem closeCarrier_moves (period : Nat) (i : Fin 63) : Moves s (s.closeCarrier period i) :=
  (reevaluate_moves _ i).after (changeCarrier_moves fun c _ d => by
    cases d with
    | outLeg => exact lockAgrees_close period c.outAccount
    | inLeg => exact lockAgrees_close period c.inAccount)

theorem nextPeriod_moves : Moves s s.nextPeriod := sac_moves s { s.sac with period := (s.sac.period + 1) % 65536 } rfl

theorem periodClose_moves (carrier : Nat) : Moves s (periodClose carrier s).2 := by
  unfold periodClose
  split_ifs
  · exact (nextPeriod_moves _).after (List.foldlRecOn (motive := Moves s) _ _ Moves.refl
      fun _ hu i _ => hu.trans (closeCarrier_moves _ _ i))
  · split
    · exact Moves.refl
    · exact (nextPeriod_moves _).after (closeCarrier_moves s _ _)

theorem recordsFetch_moves (count : Nat) : Moves s (recordsFetch count s).2 :=
  (testLatch_moves _).after (sac_moves s { s.sac with records := s.sac.records.drop (clamp 1 8 count) } rfl)

theorem query_moves (target number member clear : Nat) : Moves s (query target number member clear s).2 := by
  unfold query
  split
  · exact Moves.refl
  · unfold queryPart
    split
    · exact Moves.refl
    · dsimp only
      split_ifs
      · exact (Move.tallies 0 0 0).moves
      · exact Moves.refl
  · unfold queryGroup
    split_ifs
    · exact Moves.refl
    · split
      · exact Moves.refl
      · dsimp only
        split_ifs
        · exact countTally_moves s number _
        · exact Moves.refl
  all_goals exact Moves.refl

end ServiceRequests

/-! ### Every request -/

/-- Every request but TRAFFIC_RESTART is served by an act made of basic changes; QUERY and RECORDS_FETCH alone are served in a
sweep (R46). -/
theorem exec_served {c : Instr} {k : Byte} (hk : requestCode c = some k) (hrestart : c ≠ .trafficRestart) :
    ∃ b act, (∀ s, exec c s = .next (s.serve c k b act)) ∧ (∀ n s, Moves s (act n s).2) ∧
      (b = true → (∃ t n m x, c = .query t n m x) ∨ ∃ n, c = .recordsFetch n) := by
  cases c
  case trafficRestart => exact absurd rfl hrestart
  all_goals cases hk
  case query => exact ⟨_, _, fun _ => rfl, fun _ s => query_moves s _ _ _ _, fun _ => .inl ⟨_, _, _, _, rfl⟩⟩
  case recordsFetch => exact ⟨_, _, fun _ => rfl, fun _ s => recordsFetch_moves s _, fun _ => .inr ⟨_, rfl⟩⟩
  case seizeIn => exact ⟨_, _, fun _ => rfl, fun _ s => seizeIn_moves s _ _ _ _, by simp⟩
  case route => exact ⟨_, _, fun _ => rfl, fun _ s => route_moves s _ _ _, by simp⟩
  case continueCall => exact ⟨_, _, fun _ => rfl, fun _ s => continueCall_moves s _, by simp⟩
  case confirm => exact ⟨_, _, fun _ => rfl, fun _ s => confirm_moves s _ _ _, by simp⟩
  case failCall => exact ⟨_, _, fun _ => rfl, fun _ s => failCall_moves s _ _ _ _ _, by simp⟩
  case answer => exact ⟨_, _, fun _ => rfl, fun n s => answer_moves s _ n, by simp⟩
  case release => exact ⟨_, _, fun _ => rfl, fun n s => release_moves s _ n, by simp⟩
  case farMark => exact ⟨_, _, fun _ => rfl, fun _ s => farMark_moves s _ _ _, by simp⟩
  case groupDefine => exact ⟨_, _, fun _ => rfl, fun _ s => groupDefine_moves s _, by simp⟩
  case groupBlock => exact ⟨_, _, fun _ => rfl, fun _ s => groupBlock_moves s _, by simp⟩
  case groupUnblock => exact ⟨_, _, fun _ => rfl, fun _ s => groupUnblock_moves s _, by simp⟩
  case circuitBlock => exact ⟨_, _, fun _ => rfl, fun _ s => onCircuit_moves s block_isBusy _ _, by simp⟩
  case circuitUnblock => exact ⟨_, _, fun _ => rfl, fun _ s => onCircuit_moves s unblock_isBusy _ _, by simp⟩
  case destSet => exact ⟨_, _, fun _ => rfl, fun _ s => destSet_moves s _ _, by simp⟩
  case destClear => exact ⟨_, _, fun _ => rfl, fun _ s => destClear_moves s _, by simp⟩
  case listSet => exact ⟨_, _, fun _ => rfl, fun _ s => listSet_moves s _ _, by simp⟩
  case overlaySet => exact ⟨_, _, fun _ => rfl, fun _ s => overlaySet_moves s _, by simp⟩
  case overlayArm => exact ⟨_, _, fun _ => rfl, fun _ s => onSlot_moves s armSlot_moves _, by simp⟩
  case overlayDisarm => exact ⟨_, _, fun _ => rfl, fun _ s => onSlot_moves s disarmSlot_moves _, by simp⟩
  case overlayFire => exact ⟨_, _, fun _ => rfl, fun _ s => onSlot_moves s fireSlot_moves _, by simp⟩
  case overlayRevert => exact ⟨_, _, fun _ => rfl, fun _ s => onSlot_moves s revertSlot_moves _, by simp⟩
  case tariffSet => exact ⟨_, _, fun _ => rfl, fun _ s => tariffSet_moves s _, by simp⟩
  case calendarSet => exact ⟨_, _, fun _ => rfl, fun _ s => calendarSet_moves s _ _ _, by simp⟩
  case weekSet => exact ⟨_, _, fun _ => rfl, fun _ s => weekSet_moves s _, by simp⟩
  case timeSet => exact ⟨_, _, fun _ => rfl, fun _ s => timeSet_moves s _ _ _, by simp⟩
  case carrierLimits => exact ⟨_, _, fun _ => rfl, fun _ s => carrierLimits_moves s _ _ _, by simp⟩
  case carrierBar => exact ⟨_, _, fun _ => rfl, fun _ s => carrierBar_moves s _ _, by simp⟩
  case guardMode => exact ⟨_, _, fun _ => rfl, fun _ s => guardMode_moves s _ _, by simp⟩
  case eventConfig => exact ⟨_, _, fun _ => rfl, fun _ s => eventConfig_moves s _ _ _ _, by simp⟩
  case periodClose => exact ⟨_, _, fun _ => rfl, fun _ s => periodClose_moves s _, by simp⟩

end Sys2Proof.Proofs.Steps


namespace Sys2Proof.Proofs.Steps

open Sys2Proof.Machine Sys2Proof.Proofs.ChargeRecords Sys2Proof.Proofs.Circuits Sys2Proof.Proofs.TrunkGroups

/-! ### Every command -/

/-- A change that some command makes: a basic change of the blocks, any change of LNK or of the clock, a notice handed to the
transmitter, or a reset. -/
inductive Change (s : State) : State → Prop
  | block {t : State} (h : Move s t) : Change s t
  | link (l : Lnk) : Change s { s with lnk := l }
  | clock (c : Clk) : Change s { s with clk := c }
  | sent (n : Notice) : Change s { s with enu := { s.enu with notices := s.enu.notices.erase n } }
  | reset (l : Lnk) : Change s { State.reset with lnk := l, pending := s.pending }

/-- A run of changes. -/
abbrev Runs : State → State → Prop := Relation.ReflTransGen Change

theorem Runs.refl {s : State} : Runs s s := Relation.ReflTransGen.refl

/-- The last change of a run first, so that its state fixes the one before. -/
theorem Runs.after {s t u : State} (hlast : Runs t u) (h : Runs s t) : Runs s u := h.trans hlast

theorem Change.runs {s t : State} (h : Change s t) : Runs s t := Relation.ReflTransGen.single h

theorem Moves.runs {s t : State} (h : Moves s t) : Runs s t := h.lift id fun _ _ => Change.block

/-! ### Requests -/

theorem withHanded_runs (s : State) (h : Handed) : Runs s (s.withHanded h) := (Change.link _).runs

theorem place_runs (s : State) (k : Byte) (tag : BitVec 16) (a : Answer) : Runs s (s.place k tag a) := (Change.link _).runs

theorem serve_runs {act : Count → State → Answer × State} (hact : ∀ n s, Moves s (act n s).2) (s : State) (c : Instr)
    (k : Byte) (b : Bool) : Runs s (s.serve c k b act) := by
  cases ht : s.takes? c with
  | none => rw [serve_untaken ht]
  | some h =>
    rcases serve_cases ht k b act with hserve | hserve <;> rw [hserve]
    · exact place_runs s k _ _
    · exact (place_runs _ k _ _).after ((hact _ _).runs.after (withHanded_runs s h))

theorem stopSeizeTimers_moves (s : State) : Moves s s.stopSeizeTimers :=
  (Move.groups fun _ => .members (f := Circuit.stopSeize) fun _ => rfl).moves

theorem execTrafficRestart_runs (s : State) : ∃ t, exec .trafficRestart s = .next t ∧ Runs s t := by
  refine ⟨_, rfl, ?_⟩
  split
  · exact Runs.refl
  rename_i h _
  split_ifs
  · exact place_runs s _ _ _
  · have hsweep : Runs (s.withHanded h).stopSeizeTimers
        ((s.withHanded h).stopSeizeTimers.setSweep (some ⟨h.tag, h.arrival, 0, 0, 0⟩)) := (Change.block (.sweep _)).runs
    exact (Change.link { s.lnk with handed := none }).runs.after
      (hsweep.after ((stopSeizeTimers_moves _).runs.after (withHanded_runs s h)))

/-! ### The sweep -/

section Sweep
variable (s : State)

theorem visit_moves (w : Sweep) (c : Context) : Moves s (s.visit w c) :=
  (sweepLegs_moves _ c).after ((freeContext_moves _ _).after (endLegs_moves s _ _ _))

theorem setSweep_moves (w : Option Sweep) : Moves s (s.setSweep w) := (Move.sweep w).moves

theorem execSweepContextVisit_moves : ∃ t, exec .sweepContextVisit s = .next t ∧ Moves s t := by
  refine ⟨_, rfl, ?_⟩
  split
  · exact Moves.refl
  split_ifs
  · split
    · exact setSweep_moves s _
    · exact (setSweep_moves _ _).after (visit_moves s _ _)
  · exact Moves.refl

theorem swept_isBusy (c : Circuit) : c.swept.state.isBusy = false := by
  unfold Circuit.swept
  split_ifs with h
  · rw [h]; rfl
  · rfl

theorem swept_busy (r : Group) : r.swept.busy = 0 := by
  simp [Group.busy, Group.swept, List.countP_eq_zero, swept_isBusy]

/-- After the sweep a group is IN_SERVICE with its timer running or BLOCKED with it stopped, its score 0 and no circuit busy
(R27, R89). -/
theorem swept_replaces (r : Group) : Replaces r r.swept := by
  refine ⟨rfl, by simp [Group.swept, Group.size], fun _ => ⟨Nat.zero_le _, fun h => ⟨swept_busy r, rfl, ?_⟩, fun h => ?_, fun h => ?_⟩⟩
  all_goals
    by_cases hin : r.state = .inService
    · simp_all [Group.swept]
    · simp_all [Group.swept]

theorem restartValues_moves : Moves s s.restartValues := by
  have hgroups : Moves s (s.mapGroups Group.swept) := (Move.groups swept_replaces).moves
  have hdests : Moves (s.mapGroups Group.swept)
      { s.mapGroups Group.swept with rse := { s.rse with dests := tmap Dest.swept s.rse.dests } } :=
    (Move.dests (s := s.mapGroups Group.swept) (f := Dest.swept) fun _ => rfl).moves
  have hslots := (Move.slots (s := { s.mapGroups Group.swept with rse := { s.rse with dests := tmap Dest.swept s.rse.dests } })
    (s.rse.slots.map Slot.swept)).moves
  exact (Move.forget).moves.after ((Move.sweep none).moves.after (hslots.after (hdests.after hgroups)))

theorem completeSweep_runs (w : Sweep) : Runs s (s.completeSweep w) :=
  (Change.link _).runs.after ((raise_moves _ _).after (restartValues_moves s)).runs

theorem execSweepCompletion_runs : ∃ t, exec .sweepCompletion s = .next t ∧ Runs s t := by
  refine ⟨_, rfl, ?_⟩
  split
  · split_ifs
    · exact Runs.refl
    · exact completeSweep_runs s _
  · exact Runs.refl
  · exact Runs.refl

end Sweep

/-! ### The timers -/

section Timers
variable (s : State)

theorem execGuardTimerExpiry_moves (g m : Nat) : ∃ t, exec (.guardTimerExpiry g m) s = .next t ∧ Moves s t := by
  refine ⟨_, rfl, ?_⟩
  split
  · rename_i c hc
    split_ifs with hdue
    · obtain ⟨r, hr, hm⟩ := circuit?_eq_some_iff.1 hc
      exact setCircuit_moves s hr (.circuit hm (by rw [hdue.1]; rfl))
    · exact Moves.refl
  · exact Moves.refl

theorem halt_progressHeld {c : Context} (h : ProgressHeld c) (cause : HaltCause) (resume : Option Nat) :
    ProgressHeld (c.halt cause resume) := by
  intro g hg
  obtain ⟨p, hp, rfl⟩ := Option.map_eq_some_iff.1 hg
  exact h p hp

theorem timeoutContext_moves (n : Nat) : Moves s (s.timeoutContext n) := by
  unfold State.timeoutContext
  split
  · exact Moves.refl
  rename_i c hc
  split
  · exact Moves.refl
  · rename_i o _
    exact (setContext_moves (by rw [context?_congr (s := s) (by simp), hc]) fun h => halt_progressHeld h _ _).after
      (settleGuard_moves s o.guarded)

theorem execSeizeTimerExpiry_moves (g m : Nat) : ∃ t, exec (.seizeTimerExpiry g m) s = .next t ∧ Moves s t := by
  refine ⟨_, rfl, ?_⟩
  split
  · split_ifs
    · dsimp only
      refine (raise_moves _ _).after ((countTally_moves _ g _).after ?_)
      split
      · exact (timeoutContext_moves _ _).after (ordinaryRelease_moves s g m)
      · exact ordinaryRelease_moves s g m
    · exact Moves.refl
  · exact Moves.refl

theorem sampled_le {r : Group} (h : r.score ≤ 15) : r.sampled ≤ 15 := by
  unfold Group.sampled
  split_ifs <;> omega

theorem execSampleTimerExpiry_moves (g : Nat) : ∃ t, exec (.sampleTimerExpiry g) s = .next t ∧ Moves s t := by
  refine ⟨_, rfl, ?_⟩
  split
  · rename_i r hr
    split_ifs with hdue
    · -- The timer of a BLOCKED group is stopped, so the group is in service or draining.
      have hsound : r.sound → r.state ≠ .blocked := fun ⟨_, hb, _, _⟩ hstate => by
        obtain ⟨_, _, hnone⟩ := hb hstate
        rw [hdue] at hnone
        cases hnone
      have hreloaded : Replaces r { r with sampleTimer := some r.sampleInterval } :=
        ⟨rfl, rfl, fun h => ⟨h.1, fun hs => absurd hs (hsound h), h.2.2.1, fun _ => rfl⟩⟩
      refine (setScore_moves fun u hu => ?_).after (setGroup_moves hr hreloaded)
      rw [setGroup_group?_same _ _ _ (lt_of_group? hr), Option.some_inj] at hu
      subst hu
      exact ⟨rfl, rfl, fun ⟨hle, hb, hd, ht⟩ => ⟨sampled_le hle, fun hs => absurd (hb hs).2.2 (by simp), hd, ht⟩⟩
    · exact Moves.refl
  · exact Moves.refl

theorem execMarkExpiry_moves (i : Nat) : ∃ t, exec (.markExpiry i) s = .next t ∧ Moves s t := by
  refine ⟨_, rfl, ?_⟩
  split
  · rename_i d hd
    split_ifs
    · exact (raise_moves _ _).after (Move.dest (d' := { d with mark := 0, markTimer := none }) (mem_of_tget hd) rfl).moves
    · exact Moves.refl
  · exact Moves.refl

theorem execMidnightRollover_runs : ∃ t, exec .midnightRollover s = .next t ∧ Runs s t := by
  refine ⟨_, rfl, ?_⟩
  split_ifs
  · exact (Change.clock _).runs
  · exact Runs.refl

/-- A decisecond leaves every group's circuits as busy as they were, and a running sample timer running. -/
theorem tick_replaces (r : Group) : Replaces r r.tick := by
  have hbusy : r.tick.busy = r.busy := by
    simp [Group.busy, Group.tick, List.countP_map, Function.comp_def, Circuit.tick]
  refine ⟨rfl, by simp [Group.size, Group.tick], fun ⟨hle, hb, hd, ht⟩ => ⟨hle, fun h => ?_, fun h => ?_, fun h => ?_⟩⟩
  · obtain ⟨h0, hs, hnone⟩ := hb h
    exact ⟨hbusy.trans h0, hs, by simp [Group.tick, hnone, timerDown]⟩
  · exact hbusy ▸ hd h
  · simpa [Group.tick, timerDown] using ht h

theorem tick_runs : Runs s s.tick := by
  have hclock : Runs s { s with clk := s.clk.advance } := (Change.clock _).runs
  have hgroups := (Move.groups (s := { s with clk := s.clk.advance }) tick_replaces).moves
  exact (Move.dests (f := Dest.tick) fun _ => rfl).moves.runs.after (hgroups.runs.after hclock)

theorem execEndOfDecisecond_runs : ∃ t, exec .endOfDecisecond s = .next t ∧ Runs s t := by
  refine ⟨_, rfl, ?_⟩
  split
  · exact Runs.refl
  · exact tick_runs s
  · exact tick_runs s

end Timers

/-! ### The link -/

section Link
variable (s : State)

theorem discard_runs (cause : LinkCause) : Runs s (s.discard cause) :=
  (raise_moves _ _).runs.after (Change.link _).runs

theorem setRx_runs (r : Receiver) : Runs s (s.setRx r) := (Change.link _).runs

theorem judgeFrame_runs (r : Receiver) : Runs s (s.judgeFrame r) := by
  unfold State.judgeFrame
  split
  · exact discard_runs s _
  · split_ifs
    · exact discard_runs s _
    · exact (Change.link _).runs

theorem delimiter_runs : Runs s s.delimiter := by
  unfold State.delimiter
  dsimp only
  split_ifs
  · exact setRx_runs s _
  · exact (judgeFrame_runs _ _).after (setRx_runs s _)

theorem receive_runs (b : Byte) : Runs s (s.receive b) := by
  unfold State.receive
  split_ifs
  · exact delimiter_runs s
  · exact setRx_runs s _

theorem execFrameComplete_runs (wire : List Byte) : ∃ t, exec (.frameComplete wire) s = .next t ∧ Runs s t := by
  have hreceived : Runs s (wire.foldl State.receive s).delimiter :=
    (delimiter_runs _).after (List.foldlRecOn (motive := Runs s) _ _ Runs.refl fun _ hu b _ => hu.trans (receive_runs _ b))
  refine ⟨_, rfl, ?_⟩
  split
  · exact Runs.refl
  · exact hreceived
  · exact hreceived

theorem execTakeFrame_runs : ∃ t, exec .takeFrame s = .next t ∧ Runs s t := by
  refine ⟨_, rfl, ?_⟩
  split
  · exact Runs.refl
  split_ifs
  · dsimp only
    split
    all_goals exact (Change.link _).runs
  · exact Runs.refl

theorem choose_runs : Runs s s.choose := by
  have hnotice : ∀ n, Runs s (s.sendNotice n) := fun n => (Change.link _).runs.after (Change.sent n).runs
  unfold State.choose
  split
  · split_ifs
    · exact (Change.link _).runs
    · exact hnotice _
  · exact hnotice _
  · exact (Change.link _).runs
  · exact Runs.refl

theorem idleChoice_runs : Runs s s.idleChoice := by
  unfold State.idleChoice
  split_ifs
  · exact choose_runs s
  · exact Runs.refl

theorem execFrameSent_runs : ∃ t, exec .frameSent s = .next t ∧ Runs s t := by
  refine ⟨_, rfl, ?_⟩
  split_ifs
  · exact Runs.refl
  · exact (choose_runs _).after (Change.link _).runs

theorem execStartUpClearEnd_runs : ∃ t, exec .startUpClearEnd s = .next t ∧ Runs s t := by
  refine ⟨_, rfl, ?_⟩
  split
  · exact (idleChoice_runs _).after ((raise_moves _ _).runs.after (Change.link _).runs)
  · exact Runs.refl
  · exact Runs.refl

end Link

theorem runs_of_moves {o : Host.Outcome State Fault Refusal} {s : State} (h : ∃ t, o = .next t ∧ Moves s t) :
    ∃ t, o = .next t ∧ Runs s t := by
  obtain ⟨t, ho, hmoves⟩ := h
  exact ⟨t, ho, hmoves.runs⟩

/-- A step that is no request of the host is a run of changes. -/
theorem exec_unrequested_runs {c : Instr} (hk : requestCode c = none) (s : State) :
    ∃ t, exec c s = .next t ∧ Runs s t := by
  cases c
  case sweepContextVisit => exact runs_of_moves (execSweepContextVisit_moves s)
  case sweepCompletion => exact execSweepCompletion_runs s
  case guardTimerExpiry g m => exact runs_of_moves (execGuardTimerExpiry_moves s g m)
  case seizeTimerExpiry g m => exact runs_of_moves (execSeizeTimerExpiry_moves s g m)
  case sampleTimerExpiry g => exact runs_of_moves (execSampleTimerExpiry_moves s g)
  case markExpiry i => exact runs_of_moves (execMarkExpiry_moves s i)
  case midnightRollover => exact execMidnightRollover_runs s
  case endOfDecisecond => exact execEndOfDecisecond_runs s
  case frameComplete wire => exact execFrameComplete_runs s wire
  case takeFrame => exact execTakeFrame_runs s
  case transmitterChoice => exact ⟨_, rfl, idleChoice_runs s⟩
  case frameSent => exact execFrameSent_runs s
  case startUpClearEnd => exact execStartUpClearEnd_runs s
  case powerOnReset => exact ⟨_, rfl, (Change.reset _).runs⟩
  case resetInputAsserted => exact ⟨_, rfl, (Change.reset _).runs⟩
  all_goals cases hk

/-- Every command answers a next state, by a run of changes. -/
theorem exec_runs (c : Instr) (s : State) : ∃ t, exec c s = .next t ∧ Runs s t := by
  cases hk : requestCode c with
  | none => exact exec_unrequested_runs hk s
  | some k =>
    by_cases hrestart : c = .trafficRestart
    · subst hrestart
      exact execTrafficRestart_runs s
    · obtain ⟨b, act, hexec, hact, -⟩ := exec_served hk hrestart
      exact ⟨_, hexec s, serve_runs hact s c k b⟩

/-- What every change keeps, every step keeps. -/
theorem step_keeps {P : State → Prop} (hqueue : ∀ s q, P s → P (s.withPending q)) (hchange : ∀ s t, P s → Change s t → P t)
    {s t : State} (hs : P s) (hstep : step s = .next t) : P t := by
  unfold step at hstep
  split at hstep
  · cases hstep
    exact hs
  · rename_i c q _
    obtain ⟨u, hexec, hrun⟩ := exec_runs c (s.withPending q)
    cases hexec.symm.trans hstep
    clear hexec hstep
    induction hrun with
    | refl => exact hqueue s q hs
    | tail _ hlast ih => exact hchange _ _ ih hlast

end Sys2Proof.Proofs.Steps


/-! ## Invariants: what every basic change keeps, every step keeps -/

namespace Sys2Proof.Proofs.Invariants

open Sys2Proof.Machine Sys2Proof.Proofs.ChargeRecords Sys2Proof.Proofs.Steps

/-- What the basic changes keep, whatever is said of LNK, the clock or the command queue, and what holds after a reset, every step
keeps. -/
theorem step_keeps_of_moves {P : State → Prop} (hlink : ∀ s l, P s → P { s with lnk := l }) (hclock : ∀ s c, P s → P { s with clk := c })
    (hqueue : ∀ s q, P s → P { s with pending := q })
    (hsent : ∀ (s : State) n, P s → P { s with enu := { s.enu with notices := s.enu.notices.erase n } })
    (hreset : P State.reset) (hmove : ∀ s t, P s → Move s t → P t) {s t : State} (hs : P s) (hstep : step s = .next t) : P t := by
  refine step_keeps hqueue (fun u v hu hchange => ?_) hs hstep
  cases hchange with
  | block hm => exact hmove u v hu hm
  | link l => exact hlink u l hu
  | clock c => exact hclock u c hu
  | sent n => exact hsent u n hu
  | reset l => exact hqueue _ _ (hlink _ l hreset)

/-! ### Canonical tables -/

theorem canonical_iff {s : State} : s.canonical = true ↔
    tableWf s.ctb.groups = true ∧ tableWf s.rse.dests = true ∧ tableWf s.rse.lists = true ∧ tableWf s.rse.contexts = true := by
  simp [State.canonical, and_assoc]

theorem canonical_congr {s t : State} (hctb : t.ctb = s.ctb) (hrse : t.rse = s.rse) : t.canonical = s.canonical := by
  simp [State.canonical, hctb, hrse]

@[simp] theorem note_ctb (s : State) (e : Event) : (s.note e).ctb = s.ctb := by
  obtain ⟨_, _, h⟩ := note_eventOnly s e
  rw [h]

@[simp] theorem note_sac (s : State) (e : Event) : (s.note e).sac = s.sac := by
  obtain ⟨_, _, h⟩ := note_eventOnly s e
  rw [h]

/-- Every write of a table is a `tput`, a `tdel` or a `tmap`, and these keep the canonical form. -/
theorem move_canonical {s t : State} (hs : s.canonical = true) (h : Move s t) : t.canonical = true := by
  obtain ⟨hgroups, hdests, hlists, hcontexts⟩ := canonical_iff.1 hs
  cases h with
  | note e => rwa [canonical_congr (note_ctb s e) (note_rse s e)]
  | group | define => exact canonical_iff.2 ⟨tableWf_tput _ _ _ hgroups, hdests, hlists, hcontexts⟩
  | delete => exact canonical_iff.2 ⟨tableWf_tdel _ _ hgroups, hdests, hlists, hcontexts⟩
  | groups => exact canonical_iff.2 ⟨tableWf_tmap _ _ hgroups, hdests, hlists, hcontexts⟩
  | context => exact canonical_iff.2 ⟨hgroups, hdests, hlists, tableWf_tput _ _ _ hcontexts⟩
  | free => exact canonical_iff.2 ⟨hgroups, hdests, hlists, tableWf_tdel _ _ hcontexts⟩
  | dest | newDest => exact canonical_iff.2 ⟨hgroups, tableWf_tput _ _ _ hdests, hlists, hcontexts⟩
  | clearDest => exact canonical_iff.2 ⟨hgroups, tableWf_tdel _ _ hdests, hlists, hcontexts⟩
  | dests => exact canonical_iff.2 ⟨hgroups, tableWf_tmap _ _ hdests, hlists, hcontexts⟩
  | list => exact canonical_iff.2 ⟨hgroups, hdests, tableWf_tput _ _ _ hlists, hcontexts⟩
  | _ => exact hs

theorem reset_canonical : State.reset.canonical = true := by decide

/-- Settles O7: every write of a table keeps the canonical form. -/
theorem stepKeepsTablesCanonical : Obligations.StepKeepsTablesCanonical := fun _ _ =>
  step_keeps_of_moves (fun _ _ h => h) (fun _ _ h => h) (fun _ _ h => h) (fun _ _ h => h) reset_canonical
    fun _ _ => move_canonical

/-! ### Sound groups -/

theorem group_mem {s : State} {g : Nat} {r : Group} (h : s.group? g = some r) : (g, r) ∈ s.ctb.groups := by
  unfold State.group? at h
  split_ifs at h
  exact mem_of_tget h

/-- A group's record is replaced by one that is sound when it was. -/
theorem move_groupsSound {s t : State} (hs : s.groupsSound) (h : Move s t) : t.groupsSound := by
  cases h with
  | note e => intro x hx; exact hs x (by rwa [note_ctb] at hx)
  | group hr h =>
    intro x hx
    rcases mem_tput _ _ _ hx with rfl | hx
    · exact h.sound (hs _ (group_mem hr))
    · exact hs x hx
  | define hsound =>
    intro x hx
    rcases mem_tput _ _ _ hx with rfl | hx
    · exact hsound
    · exact hs x hx
  | delete => exact fun x hx => hs x (mem_tdel _ _ hx)
  | groups h =>
    intro x hx
    obtain ⟨d, hd, rfl⟩ := (mem_tmap _).1 hx
    exact (h d.2).sound (hs d hd)
  | _ => exact hs

/-- Settles O8: every record that replaces a group's is sound when the group was. -/
theorem stepKeepsGroupsSound : Obligations.StepKeepsGroupsSound := fun _ _ =>
  step_keeps_of_moves (fun _ _ h => h) (fun _ _ h => h) (fun _ _ h => h) (fun _ _ h => h) (by simp [State.groupsSound, State.reset])
    fun _ _ => move_groupsSound

/-! ### Disjoint runs -/

theorem runsOverlap_comm (a m b n : Nat) : runsOverlap a m b n = runsOverlap b n a m := by
  simp [runsOverlap, and_comm]

/-- A run inside the table that overlaps no other group's may take a group's place. -/
theorem runsDisjoint_setGroup {s : State} (hs : s.runsDisjoint) {g : Nat} {r : Group} (hpos : 0 < r.size)
    (hrun : r.first + r.size ≤ Config.circuits)
    (hapart : ∀ x ∈ s.ctb.groups, x.1 ≠ g → runsOverlap r.first r.size x.2.first x.2.size = false) :
    (s.setGroup g r).runsDisjoint := by
  obtain ⟨hwf, hsize, hdisjoint⟩ := hs
  refine ⟨tableWf_tput _ _ _ hwf, fun x hx => ?_, fun x hx y hy hne => ?_⟩
  · rcases mem_tput _ _ _ hx with rfl | hx
    · exact ⟨hpos, hrun⟩
    · exact hsize x hx
  · rcases mem_tput _ _ _ hx with rfl | hx <;> rcases mem_tput _ _ _ hy with rfl | hy
    · exact absurd rfl hne
    · exact hapart y hy hne.symm
    · rw [runsOverlap_comm]; exact hapart x hx hne
    · exact hdisjoint x hx y hy hne

theorem overlapsOther_eq_false {g first size : Nat} {t : Table Group} (h : overlapsOther g first size t = false) :
    ∀ x ∈ t, x.1 ≠ g → runsOverlap first size x.2.first x.2.size = false := by
  intro x hx hne
  have := List.any_eq_false.1 h x hx
  simpa [hne] using this

/-- A group's run changes only where GROUP_DEFINE gives it one that overlaps no other's. -/
theorem move_runsDisjoint {s t : State} (hs : s.runsDisjoint) (h : Move s t) : t.runsDisjoint := by
  obtain ⟨hwf, hsize, hdisjoint⟩ := id hs
  cases h with
  | note e => unfold State.runsDisjoint at *; rwa [note_ctb]
  | group hr h =>
    obtain ⟨hpos, hrun⟩ := hsize _ (group_mem hr)
    refine runsDisjoint_setGroup hs (by rwa [h.size]) (by rwa [h.first, h.size]) fun x hx hne => ?_
    rw [h.first, h.size]
    exact hdisjoint _ (group_mem hr) x hx hne.symm
  | define _ hpos hrun hover => exact runsDisjoint_setGroup hs hpos hrun (overlapsOther_eq_false hover)
  | delete => exact ⟨tableWf_tdel _ _ hwf, fun x hx => hsize x (mem_tdel _ _ hx),
      fun x hx y hy => hdisjoint x (mem_tdel _ _ hx) y (mem_tdel _ _ hy)⟩
  | groups h =>
    refine ⟨tableWf_tmap _ _ hwf, fun x hx => ?_, fun x hx y hy => ?_⟩
    · obtain ⟨d, hd, rfl⟩ := (mem_tmap _).1 hx
      simpa [(h d.2).size, (h d.2).first] using hsize d hd
    · obtain ⟨d, hd, rfl⟩ := (mem_tmap _).1 hx
      obtain ⟨e, he, rfl⟩ := (mem_tmap _).1 hy
      simpa [(h d.2).size, (h d.2).first, (h e.2).size, (h e.2).first] using hdisjoint d hd e he
  | _ => exact hs

theorem reset_runsDisjoint : State.reset.runsDisjoint := by
  refine ⟨rfl, ?_, ?_⟩ <;> simp [State.reset]

/-- Settles O9: only GROUP_DEFINE gives a group a run, and it refuses one that overlaps another's. -/
theorem stepKeepsRunsDisjoint : Obligations.StepKeepsRunsDisjoint := fun _ _ =>
  step_keeps_of_moves (fun _ _ h => h) (fun _ _ h => h) (fun _ _ h => h) (fun _ _ h => h) reset_runsDisjoint
    fun _ _ => move_runsDisjoint

/-! ### Locks -/

/-- A carrier's accounts change only together with their locks. -/
theorem move_locksAgree {s t : State} (hs : s.locksAgree) (h : Move s t) : t.locksAgree := by
  cases h with
  | note e => intro i d; rw [note_sac]; exact hs i d
  | @carrier i c h =>
    intro j d
    by_cases hj : j = i
    · subst hj
      simpa [LockAgrees] using h (fun d => hs j d) d
    · have hother : (s.setCarrier i c).sac.carriers[j] = s.sac.carriers[j] := by
        simp only [State.setCarrier]
        exact Vector.getElem_set_ne _ _ fun hij => hj (Fin.ext hij.symm)
      rw [hother]
      exact hs j d
  | sac h => intro i d; rw [h]; exact hs i d
  | _ => exact hs

theorem reset_locksAgree : State.reset.locksAgree := by
  intro i d
  have hcarrier : State.reset.sac.carriers[i] = Carrier.powerOn := by simp [State.reset, Sac.powerOn]
  rw [hcarrier]
  cases d <;> simp [Carrier.account, Carrier.powerOn, Account.powerOn]

/-- Settles O11: a rated leg locks its account as it counts, and a close unlocks it as it sets the count to 0. -/
theorem stepKeepsLocksAgreeing : Obligations.StepKeepsLocksAgreeing := fun _ _ =>
  step_keeps_of_moves (fun _ _ h => h) (fun _ _ h => h) (fun _ _ h => h) (fun _ _ h => h) reset_locksAgree
    fun _ _ => move_locksAgree

/-! ### Budgets -/

/-- A context's progress changes only within its budget. -/
theorem move_budgetsHeld {s t : State} (hs : s.budgetsHeld) (h : Move s t) : t.budgetsHeld := by
  cases h with
  | note e => intro x hx; exact hs x (by rwa [note_rse] at hx)
  | context h =>
    intro x hx
    rcases mem_tput _ _ _ hx with rfl | hx
    · exact h fun b hb => hs _ (mem_of_tget hb)
    · exact hs x hx
  | free => exact fun x hx => hs x (mem_tdel _ _ hx)
  | _ => exact hs

/-- Settles O13: a selection tries an untried circuit only with an attempt left. -/
theorem stepKeepsBudgetsHeld : Obligations.StepKeepsBudgetsHeld := fun _ _ =>
  step_keeps_of_moves (fun _ _ h => h) (fun _ _ h => h) (fun _ _ h => h) (fun _ _ h => h) (by simp [State.budgetsHeld, State.reset])
    fun _ _ => move_budgetsHeld

/-! ### Prefixes -/

/-- An entry keeps its digits, and a new entry's digits are no other's. -/
theorem move_prefixesDistinct {s t : State} (hs : s.prefixesDistinct) (h : Move s t) : t.prefixesDistinct := by
  cases h with
  | note e => unfold State.prefixesDistinct at *; rwa [note_rse]
  | @dest i d d' hd hdigits =>
    intro a ha b hb heq
    rcases mem_tput _ _ _ ha with rfl | ha <;> rcases mem_tput _ _ _ hb with rfl | hb
    · rfl
    · exact hs (i, d) hd b hb (hdigits.symm.trans heq)
    · exact hs a ha (i, d) hd (heq.trans hdigits)
    · exact hs a ha b hb heq
  | newDest hnew =>
    intro a ha b hb heq
    rcases mem_tput _ _ _ ha with rfl | ha <;> rcases mem_tput _ _ _ hb with rfl | hb
    · rfl
    · exact absurd heq.symm (hnew b hb)
    · exact absurd heq (hnew a ha)
    · exact hs a ha b hb heq
  | clearDest => exact fun a ha b hb => hs a (mem_tdel _ _ ha) b (mem_tdel _ _ hb)
  | dests h =>
    intro a ha b hb
    obtain ⟨d, hd, rfl⟩ := (mem_tmap _).1 ha
    obtain ⟨e, he, rfl⟩ := (mem_tmap _).1 hb
    simpa only [h] using hs d hd e he
  | _ => exact hs

theorem step_prefixesDistinct {s t : State} : s.prefixesDistinct → step s = .next t → t.prefixesDistinct :=
  step_keeps_of_moves (fun _ _ h => h) (fun _ _ h => h) (fun _ _ h => h) (fun _ _ h => h)
    (by simp [State.prefixesDistinct, State.reset]) fun _ _ => move_prefixesDistinct

/-! ### The notice queue -/

/-- The notice queue's bounds, of the queue alone (R174, R175). -/
def QueueBounded (q : List Notice) : Prop :=
  q.Pairwise (fun a b => a.event.samePair b.event = false) ∧ ordinaryCount q ≤ Config.notices ∧
    ∀ n ∈ q, 1 ≤ n.count ∧ n.count ≤ Config.occurrenceMax

theorem samePair_iff {a b : Event} : a.samePair b = true ↔ a.kind = b.kind ∧ a.subject = b.subject := by
  simp [Event.samePair]

theorem samePair_eq_false {a b : Event} : a.samePair b = false ↔ ¬ (a.kind = b.kind ∧ a.subject = b.subject) := by
  rw [← samePair_iff, Bool.not_eq_true]

/-- What an event makes of one entry of the queue (R175). -/
def coalesced (now : Count) (e : Event) (n : Notice) : Notice :=
  if n.event.samePair e then ⟨e, min (n.count + 1) Config.occurrenceMax, now⟩ else n

theorem coalesced_pair (now : Count) (e : Event) (n : Notice) :
    (coalesced now e n).event.kind = n.event.kind ∧ (coalesced now e n).event.subject = n.event.subject := by
  unfold coalesced
  split_ifs with h
  · obtain ⟨hkind, hsubject⟩ := samePair_iff.1 h
    exact ⟨hkind.symm, hsubject.symm⟩
  · exact ⟨rfl, rfl⟩

theorem coalesce_eq (now : Count) (e : Event) (q : List Notice) : coalesce now e q = q.map (coalesced now e) := rfl

theorem coalesce_bounded {q : List Notice} (hq : QueueBounded q) (now : Count) (e : Event) :
    QueueBounded (coalesce now e q) := by
  obtain ⟨hpairs, hordinary, hcounts⟩ := hq
  rw [coalesce_eq]
  refine ⟨?_, ?_, fun n hn => ?_⟩
  · refine List.pairwise_map.2 (hpairs.imp fun {a b} hab => ?_)
    obtain ⟨hka, hsa⟩ := coalesced_pair now e a
    obtain ⟨hkb, hsb⟩ := coalesced_pair now e b
    rw [samePair_eq_false] at hab ⊢
    rwa [← hka, ← hsa, ← hkb, ← hsb] at hab
  · have hsame : (fun n : Notice => (coalesced now e n).event.kind != .noticeOverflow) = fun n => n.event.kind != .noticeOverflow :=
      funext fun n => by rw [(coalesced_pair now e n).1]
    simpa [ordinaryCount, List.countP_map, Function.comp_def, hsame] using hordinary
  · obtain ⟨m, hm, rfl⟩ := List.mem_map.1 hn
    obtain ⟨hlow, hhigh⟩ := hcounts m hm
    unfold coalesced
    split_ifs
    · exact ⟨by simp [Config.occurrenceMax], min_le_right _ _⟩
    · exact ⟨hlow, hhigh⟩

/-- An event enters a queue that has a place for it, or an entry of its pair. -/
theorem coalesceOrAppend_bounded {q : List Notice} (hq : QueueBounded q) (now : Count) (e : Event)
    (hroom : e.kind = .noticeOverflow ∨ ordinaryCount q < Config.notices ∨ q.any (fun n => n.event.samePair e) = true) :
    QueueBounded (coalesceOrAppend now e q) := by
  unfold coalesceOrAppend
  split_ifs with hany
  · exact coalesce_bounded hq now e
  obtain ⟨hpairs, hordinary, hcounts⟩ := hq
  have hnone : ∀ n ∈ q, n.event.samePair e = false := by simpa using hany
  refine ⟨?_, ?_, fun n hn => ?_⟩
  · exact List.pairwise_append.2 ⟨hpairs, List.pairwise_singleton _ _, fun a ha b hb => by
      rw [List.mem_singleton.1 hb]; exact hnone a ha⟩
  · unfold ordinaryCount at *
    rw [List.countP_append, List.countP_singleton]
    rcases hroom with hkind | hroom | hsome
    · simpa [hkind] using hordinary
    · split_ifs <;> omega
    · exact absurd hsome hany
  · rcases List.mem_append.1 hn with hn | hn
    · exact hcounts n hn
    · rw [List.mem_singleton.1 hn]
      exact ⟨le_refl 1, by simp [Config.occurrenceMax]⟩

theorem enterNotice_bounded {q : List Notice} (hq : QueueBounded q) (now : Count) (e : Event) :
    QueueBounded (enterNotice now e q) := by
  unfold enterNotice
  split_ifs with hroom
  · refine coalesceOrAppend_bounded hq now e (.inr ?_)
    rw [Bool.or_eq_true, decide_eq_true_iff] at hroom
    exact hroom.symm
  · exact coalesceOrAppend_bounded hq now _ (.inl rfl)

theorem note_bounded {s : State} (hs : s.noticesBounded) (e : Event) : (s.note e).noticesBounded := by
  unfold State.note
  split_ifs
  · exact enterNotice_bounded hs _ _
  · exact hs

theorem move_noticesBounded {s t : State} (hs : s.noticesBounded) (h : Move s t) : t.noticesBounded := by
  cases h with
  | note e => exact note_bounded hs e
  | forget => exact ⟨List.Pairwise.nil, Nat.zero_le _, by simp⟩
  | _ => exact hs

/-- Settles O12: an event enters its pair's entry, or a free place. -/
theorem stepKeepsNoticesBounded : Obligations.StepKeepsNoticesBounded := fun _ _ =>
  step_keeps_of_moves (fun _ _ h => h) (fun _ _ h => h) (fun _ _ h => h)
    (fun s n ⟨hpairs, hordinary, hcounts⟩ => ⟨hpairs.sublist List.erase_sublist,
      (List.erase_sublist.countP_le).trans hordinary, fun m hm => hcounts m (List.mem_of_mem_erase hm)⟩)
    (by simp [State.noticesBounded, State.reset, Enu.powerOn, ordinaryCount]) fun _ _ => move_noticesBounded

end Sys2Proof.Proofs.Invariants


/-! ## The machine: its step, its reset, and when a request is answered -/

namespace Sys2Proof.Proofs.Requests

open Sys2Proof.Machine Sys2Proof.Proofs.ChargeRecords Sys2Proof.Proofs.Steps Sys2Proof.Proofs.TrunkGroups

/-! ### The step and the reset -/

/-- Settles O1, by the definition of a step. -/
theorem stepTakesTheFrontCommand : Obligations.StepTakesTheFrontCommand := by
  refine ⟨fun c q s h => ?_, fun s h => ?_⟩ <;> simp only [step, h]

theorem reset_slot (i : Fin 16) : State.reset.rse.slots[i] = Slot.powerOn := by simp [State.reset]

theorem reset_tariff (d : LegDir) (i : Fin 63) : State.reset.rte.tariff d i = Tariff.powerOn := by
  cases d <;> simp [State.reset, Rte.tariff]

theorem reset_carrier (i : Fin 63) : State.reset.sac.carriers[i] = Carrier.powerOn := by simp [State.reset, Sac.powerOn]

/-- Settles O2, from the power-on value of each block. -/
theorem resetHoldsPowerOnValues : Obligations.ResetHoldsPowerOnValues := by
  refine ⟨rfl, rfl, rfl, rfl, rfl, reset_slot, rfl, rfl, rfl, rfl, rfl, rfl, rfl, rfl, ?_, reset_tariff, reset_carrier, rfl, rfl,
    rfl, rfl, rfl, rfl, rfl, ?_, rfl, rfl, rfl, rfl, rfl, rfl, rfl, rfl, rfl, rfl, rfl, rfl, rfl⟩
  · decide
  · intro k
    cases k <;> rfl

/-- Settles O16: the tables, the contexts and the queues are empty right after power-on reset. -/
theorem resetMeetsEveryInvariant : Obligations.ResetMeetsEveryInvariant := by
  refine ⟨Invariants.reset_canonical, ?_, Invariants.reset_runsDisjoint, ?_, Invariants.reset_locksAgree, ?_, ?_, ?_, ?_, ?_, ?_, rfl⟩
  · simp [State.groupsSound, State.reset]
  · intro i
    rw [reset_carrier]
    rfl
  · simp [State.noticesBounded, State.reset, Enu.powerOn, ordinaryCount]
  · simp [State.budgetsHeld, State.reset]
  · simp [State.roomKept, State.reset, State.guardedLegs, Sac.powerOn, tableWf]
  · refine ⟨Invariants.reset_canonical, by simp [State.groupsSound, State.reset], ?_, ?_, ?_, ?_⟩ <;>
      simp [State.reset, State.circuit?, State.group?, State.context?, tget]
  · simp [State.prefixesDistinct, State.reset]
  · exact fun _ => ⟨rfl, rfl, rfl, rfl, rfl, rfl, rfl, rfl, rfl, rfl⟩

/-! ### Every command answers -/

theorem change_pending {s t : State} (h : Change s t) : t.pending = s.pending := by
  cases h with
  | block h =>
    cases h with
    | note e =>
      obtain ⟨_, _, hnote⟩ := note_eventOnly s e
      rw [hnote]
    | _ => rfl
  | _ => rfl

theorem runs_pending {s t : State} (h : Runs s t) : t.pending = s.pending := by
  induction h with
  | refl => rfl
  | tail _ hlast ih => exact (change_pending hlast).trans ih

/-- A request is not taken while another is handed on, nor, with none handed on, unless the part runs, no frame waits and a reply
place is free (log 1). -/
theorem takes?_eq_none {s : State} {c : Instr} (h : (∃ x, s.lnk.handed = some x ∧ x.request ≠ c) ∨
    s.lnk.handed = none ∧ (s.lnk.phase ≠ .running ∨ s.lnk.inbound ≠ [] ∨ s.freePlaces = 0)) : s.takes? c = none := by
  unfold State.takes?
  rcases h with ⟨x, hx, hne⟩ | ⟨hnone, habsent⟩
  · simp [hx, hne]
  · rw [hnone]
    refine if_neg fun ⟨hphase, hinbound, hfree⟩ => ?_
    rcases habsent with h | h | h
    · exact h hphase
    · exact h hinbound
    · omega

theorem exec_untaken {c : Instr} {s : State} (hk : (requestCode c).isSome = true) (ht : s.takes? c = none) : exec c s = .next s := by
  obtain ⟨k, hk⟩ := Option.isSome_iff_exists.1 hk
  by_cases hrestart : c = .trafficRestart
  · subst hrestart
    simp only [exec, execTrafficRestart, ht]
  · obtain ⟨b, act, hexec, -⟩ := exec_served hk hrestart
    rw [hexec, serve_untaken ht]

section Absent
variable {s : State}

theorem sweepContextVisit_absent (h : s.rse.sweep = none ∨ ∃ w, s.rse.sweep = some w ∧ 4096 ≤ w.next) :
    exec .sweepContextVisit s = .next s := by
  simp only [exec, execSweepContextVisit]
  rcases h with h | ⟨w, hw, hle⟩
  · rw [h]
  · rw [hw]
    exact congrArg _ (if_neg (Nat.not_lt.2 hle))

theorem sweepCompletion_absent (h : s.rse.sweep = none ∨ (∃ w, s.rse.sweep = some w ∧ w.next < 4096) ∨ s.lnk.handed ≠ none) :
    exec .sweepCompletion s = .next s := by
  simp only [exec, execSweepCompletion]
  rcases h with h | ⟨w, hw, hlt⟩ | h
  · rw [h]
  · rw [hw]
    cases s.lnk.handed with
    | none => exact congrArg _ (if_pos hlt)
    | some x => rfl
  · obtain ⟨x, hx⟩ := Option.ne_none_iff_exists'.1 h
    rw [hx]
    cases s.rse.sweep <;> rfl

theorem guardTimerExpiry_absent {g m : Nat} (h : ∀ c, s.circuit? g m = some c → ¬ (c.state = .guard ∧ c.guardTimer = some 0)) :
    exec (.guardTimerExpiry g m) s = .next s := by
  simp only [exec, execGuardTimerExpiry]
  split
  · rename_i c hc
    rw [if_neg (h c hc)]
  · rfl

theorem seizeTimerExpiry_absent {g m : Nat}
    (h : ∀ c, s.circuit? g m = some c → ¬ (c.state = .outPending ∧ c.seizeTimer = some 0)) :
    exec (.seizeTimerExpiry g m) s = .next s := by
  simp only [exec, execSeizeTimerExpiry]
  split
  · rename_i c hc
    rw [if_neg (h c hc)]
  · rfl

theorem sampleTimerExpiry_absent {g : Nat} (h : ∀ r, s.group? g = some r → r.sampleTimer ≠ some 0) :
    exec (.sampleTimerExpiry g) s = .next s := by
  simp only [exec, execSampleTimerExpiry]
  split
  · rename_i r hr
    rw [if_neg (h r hr)]
  · rfl

theorem markExpiry_absent {i : Nat} (h : ∀ d, s.dest? i = some d → d.markTimer ≠ some 0) :
    exec (.markExpiry i) s = .next s := by
  simp only [exec, execMarkExpiry]
  split
  · rename_i d hd
    rw [if_neg (h d hd)]
  · rfl

theorem midnightRollover_absent (h : s.clk.midnightDue = false) : exec .midnightRollover s = .next s := by
  simp [exec, execMidnightRollover, h]

theorem takeFrame_absent (h : s.lnk.inbound = [] ∨ s.lnk.phase ≠ .running ∨ s.lnk.handed ≠ none ∨ s.freePlaces = 0) :
    exec .takeFrame s = .next s := by
  simp only [exec, execTakeFrame]
  split
  · rfl
  · rename_i f t hinbound
    refine congrArg _ (if_neg fun ⟨hphase, hhanded, hfree⟩ => ?_)
    rcases h with h | h | h | h
    · simp [hinbound] at h
    · exact h hphase
    · exact h hhanded
    · omega

theorem startUpClearEnd_absent (h : s.lnk.phase ≠ .clearing) : exec .startUpClearEnd s = .next s := by
  simp only [exec, execStartUpClearEnd]
  split
  · exact absurd ‹_› h
  · rfl
  · rfl

end Absent

/-- Settles O3: every command is a run of changes, which keep the queue, and without its occasion it is none at all. -/
theorem everyCommandAnswersNext : Obligations.EveryCommandAnswersNext := by
  refine ⟨fun c s => ?_, fun c s hk habsent => exec_untaken hk (takes?_eq_none habsent), fun s =>
    ⟨sweepContextVisit_absent, sweepCompletion_absent, fun _ _ => guardTimerExpiry_absent, fun _ _ => seizeTimerExpiry_absent,
      fun _ => sampleTimerExpiry_absent, fun _ => markExpiry_absent, midnightRollover_absent, fun hphase => ?_, takeFrame_absent,
      fun h => ?_, fun h => ?_, startUpClearEnd_absent⟩⟩
  · obtain ⟨t, hexec, hrun⟩ := exec_runs c s
    exact ⟨t, hexec, runs_pending hrun⟩
  · simp [exec, execEndOfDecisecond, execFrameComplete, hphase]
  · simp [exec, execTransmitterChoice, State.idleChoice, h]
  · simp [exec, execFrameSent, h]

/-! ### One reply for a request -/

/-- The basic changes keep LNK but for its tallies, and the count. -/
theorem move_link {s t : State} (h : Move s t) :
    (∃ a b c, t.lnk = { s.lnk with badCheck := a, malformed := b, overruns := c }) ∧ t.clk.count = s.clk.count := by
  cases h with
  | note e =>
    obtain ⟨_, _, hnote⟩ := note_eventOnly s e
    rw [hnote]
    exact ⟨⟨_, _, _, rfl⟩, rfl⟩
  | calendar h => exact ⟨⟨_, _, _, rfl⟩, h⟩
  | tallies a b c => exact ⟨⟨a, b, c, rfl⟩, rfl⟩
  | _ => exact ⟨⟨_, _, _, rfl⟩, rfl⟩

theorem moves_link {s t : State} (h : Moves s t) :
    (∃ a b c, t.lnk = { s.lnk with badCheck := a, malformed := b, overruns := c }) ∧ t.clk.count = s.clk.count := by
  induction h with
  | refl => exact ⟨⟨_, _, _, rfl⟩, rfl⟩
  | tail _ hlast ih =>
    obtain ⟨⟨a, b, c, hlnk⟩, hcount⟩ := ih
    obtain ⟨⟨a', b', c', hlnk'⟩, hcount'⟩ := move_link hlast
    exact ⟨⟨a', b', c', by rw [hlnk', hlnk]⟩, hcount'.trans hcount⟩

/-- A request's reply has its kind code plus 0x80 (R188). -/
theorem replyCode_of_request {c : Instr} {k : Byte} (hk : requestCode c = some k) : replyCode k = k + 0x80 := by
  cases c <;> cases hk <;> rfl

/-- Settles O4: a request's act keeps the reply FIFO, at whose end its one reply is then placed. -/
theorem requestTakenIsAnsweredOnce : Obligations.RequestTakenIsAnsweredOnce := by
  intro c k s h hk hrestart ht
  obtain ⟨b, act, hexec, hact, -⟩ := exec_served hk hrestart
  rw [hexec]
  rcases serve_cases ht k b act with hserve | hserve <;> rw [hserve]
  · exact ⟨_, _, rfl, by rw [State.place_replies, replyCode_of_request hk], rfl, rfl, rfl, rfl, rfl, rfl, rfl⟩
  · obtain ⟨⟨x, y, z, hlnk⟩, hcount⟩ := moves_link (hact h.arrival (s.withHanded h))
    refine ⟨_, _, rfl, by rw [State.place_replies, hlnk, replyCode_of_request hk]; rfl, rfl, ?_, ?_, ?_, ?_, ?_, hcount⟩
    all_goals
      simp only [State.place, hlnk]
      rfl

/-- Settles O5: outside QUERY and RECORDS_FETCH a request is refused while a sweep runs. -/
theorem sweepRefusesRequests : Obligations.SweepRefusesRequests := by
  intro c k s h hk hquery hfetch ht hsweep
  by_cases hrestart : c = .trafficRestart
  · subst hrestart
    cases hk
    simp [exec, execTrafficRestart, ht, hsweep, State.place, Lnk.answered]
  · obtain ⟨b, act, hexec, -, hinSweep⟩ := exec_served hk hrestart
    have hb : b = false := Bool.eq_false_iff.2 fun hb => by
      rcases hinSweep hb with ⟨t, n, m, x, rfl⟩ | ⟨n, rfl⟩
      · exact hquery t n m x rfl
      · exact hfetch n rfl
    subst hb
    rw [hexec, serve_restarting ht hsweep]
    rfl

end Sys2Proof.Proofs.Requests


/-! ## The link: reading what the host writes -/

namespace Sys2Proof.Proofs.Link

open Sys2Proof Sys2Proof.Machine

/-! ### Fields of a body (R194) -/

section Fields
variable {a t : List Byte} {off n k v : Nat}

/-- A field behind some bytes. -/
theorem field_append_right (h : a.length ≤ off) : field (a ++ t) off n = field t (off - a.length) n := by
  rw [field, List.drop_append, List.drop_eq_nil_of_le h, List.nil_append, field]

/-- The field that a body begins with. -/
theorem field_append_left (h : a.length = n) : field (a ++ t) 0 n = ofBe a := by
  rw [field, List.drop_zero, List.take_append, h, Nat.sub_self, List.take_zero, List.append_nil, List.take_of_length_le h.le]

theorem field_be_append : field (be n v ++ t) 0 n = v % 256 ^ n := (field_append_left (be_length n v)).trans (ofBe_be n v)

theorem field_be : field (be n v) 0 n = v % 256 ^ n := by simpa using field_be_append (n := n) (v := v) (t := [])

theorem field_be_skip (h : k ≤ off) : field (be k v ++ t) off n = field t (off - k) n := by
  simpa using field_append_right (a := be k v) (t := t) (n := n) (by simpa using h)

theorem drop_be (h : k ≤ n) : (be k v ++ t).drop n = t.drop (n - k) := by
  rw [List.drop_append, be_length, List.drop_eq_nil_of_le (by simpa using h), List.nil_append]

end Fields

/-- A word of a machine register is read back as it was (R194). -/
theorem ofNat_toNat_mod {w : Nat} (x : BitVec w) : BitVec.ofNat w (x.toNat % 2 ^ w) = x := by simp

theorem isByte_iff {n : Nat} : isByte n = true ↔ n < 256 := decide_eq_true_iff

theorem isWord_iff {n : Nat} : isWord n = true ↔ n < 65536 := decide_eq_true_iff

/-! ### Digit fields -/

section Digits
variable {d : DigitField} {len off n v : Nat} {t : List Byte}

theorem map_toNat_flatMap_be {l : List Nat} (h : ∀ x ∈ l, x < 256) : (l.flatMap (be 1)).map BitVec.toNat = l := by
  induction l with
  | nil => rfl
  | cons x t ih =>
    have hx := h x List.mem_cons_self
    have hbyte : (be 1 x).map BitVec.toNat = [x] := by simp [be, Nat.mod_eq_of_lt hx]
    rw [List.flatMap_cons, List.map_append, hbyte, ih fun y hy => h y (List.mem_cons_of_mem _ hy)]
    rfl

/-- A digit field is read back from its count and its run (R194). -/
theorem readDigitField_digits_append (h : d.wellFormed len = true) : readDigitField (digitFieldBytes d ++ t) 0 len = d := by
  simp only [DigitField.wellFormed, Bool.and_eq_true, beq_iff_eq, List.all_eq_true, isByte_iff] at h
  obtain ⟨⟨hcount, hlen⟩, hrun⟩ := h
  have hlength : (d.run.flatMap (be 1)).length = len := by rw [flatMap_length (be 1) 1 (be_length 1), hlen, Nat.one_mul]
  have hread : ((digitFieldBytes d ++ t).drop 1).take len = d.run.flatMap (be 1) := by
    rw [digitFieldBytes, List.append_assoc, drop_be (le_refl 1), Nat.sub_self, List.drop_zero, List.take_append, hlength,
      Nat.sub_self, List.take_zero, List.append_nil, List.take_of_length_le hlength.le]
  rw [readDigitField, Nat.zero_add, hread, map_toNat_flatMap_be hrun, digitFieldBytes, List.append_assoc, field_be_append,
    pow_one, Nat.mod_eq_of_lt hcount]

theorem readDigitField_digits (h : d.wellFormed len = true) : readDigitField (digitFieldBytes d) 0 len = d := by
  simpa using readDigitField_digits_append (t := []) h

theorem readDigitField_skip {k : Nat} (h : k ≤ off) :
    readDigitField (be k v ++ t) off len = readDigitField t (off - k) len := by
  have hdrop : (be k v ++ t).drop (off + 1) = t.drop (off - k + 1) := by rw [drop_be (by omega)]; congr 1; omega
  rw [readDigitField, readDigitField, field_be_skip h, hdrop]

theorem field_digits_skip (h : d.wellFormed len = true) (hoff : len + 1 ≤ off) :
    field (digitFieldBytes d ++ t) off n = field t (off - (len + 1)) n := by
  have hlength := Laws.WireForm.digits_length h
  simpa [hlength] using field_append_right (a := digitFieldBytes d) (t := t) (n := n) (hlength ▸ hoff)

end Digits

/-! ### Repeated fields -/

/-- Entries of a word and a byte are read back (R196). -/
theorem readPairs_flatMap {l : List (Nat × Nat)} (h : ∀ e ∈ l, e.1 < 65536 ∧ e.2 < 256) :
    readPairs (l.flatMap fun e => be 2 e.1 ++ be 1 e.2) = l := by
  induction l with
  | nil => rfl
  | cons e t ih =>
    obtain ⟨hword, hbyte⟩ := h e List.mem_cons_self
    have hread : ofBe (be 2 e.1) = e.1 := (ofBe_be 2 e.1).trans (Nat.mod_eq_of_lt hword)
    rw [List.flatMap_cons, show be 2 e.1 ++ be 1 e.2 = [BitVec.ofNat 8 (e.1 / 256 ^ 1), BitVec.ofNat 8 (e.1 / 256 ^ 0),
      BitVec.ofNat 8 (e.2 / 256 ^ 0)] from rfl]
    simp only [List.cons_append, List.nil_append, readPairs, ih fun x hx => h x (List.mem_cons_of_mem _ hx)]
    rw [show [BitVec.ofNat 8 (e.1 / 256 ^ 1), BitVec.ofNat 8 (e.1 / 256 ^ 0)] = be 2 e.1 from rfl, hread]
    simp [Nat.mod_eq_of_lt hbyte]

/-- Entries of three bytes are read back (R196). -/
theorem readTriples_flatMap {l : List (Nat × Nat × Nat)} (h : ∀ e ∈ l, e.1 < 256 ∧ e.2.1 < 256 ∧ e.2.2 < 256) :
    readTriples (l.flatMap fun x => be 1 x.1 ++ (be 1 x.2.1 ++ be 1 x.2.2)) = l := by
  induction l with
  | nil => rfl
  | cons e t ih =>
    obtain ⟨h1, h2, h3⟩ := h e List.mem_cons_self
    have ih := ih fun x hx => h x (List.mem_cons_of_mem _ hx)
    simp [be, readTriples, Nat.mod_eq_of_lt h1, Nat.mod_eq_of_lt h2, Nat.mod_eq_of_lt h3] at ih ⊢
    exact ih

/-- The entry at an index of repeated fields (R196). -/
theorem field_flatMap {l : List Nat} {n i : Nat} (hi : i < l.length) (hl : ∀ x ∈ l, x < 256 ^ n) (t : List Byte) :
    field (l.flatMap (be n) ++ t) (n * i) n = l[i] := by
  induction l generalizing i with
  | nil => simp at hi
  | cons x l ih =>
    rw [List.flatMap_cons, List.append_assoc]
    cases i with
    | zero => rw [Nat.mul_zero, field_be_append, Nat.mod_eq_of_lt (hl x List.mem_cons_self)]; rfl
    | succ j =>
      rw [field_be_skip (by rw [Nat.mul_succ]; omega), Nat.mul_succ, Nat.add_sub_cancel]
      exact ih (by simpa using hi) fun y hy => hl y (List.mem_cons_of_mem _ hy)

section Vectors
variable {m n off : Nat} {v : Vector Nat m} {t : List Byte}

theorem readVector (hv : ∀ i (hi : i < m), v[i] < 256 ^ n) :
    (Vector.ofFn fun i : Fin m => field (v.toList.flatMap (be n) ++ t) (n * i.val) n) = v := by
  ext i hi
  have hmem : ∀ x ∈ v.toList, x < 256 ^ n := by
    intro x hx
    obtain ⟨j, hj, rfl⟩ := List.getElem_of_mem hx
    simpa using hv j (by simpa using hj)
  simp [field_flatMap (l := v.toList) (i := i) (by simpa using hi) hmem t]

theorem field_vector_skip (h : n * m ≤ off) (k : Nat) :
    field (v.toList.flatMap (be n) ++ t) off k = field t (off - n * m) k := by
  have hlength : (v.toList.flatMap (be n)).length = n * m := by simp [flatMap_length (be n) n (be_length n)]
  simpa [hlength] using field_append_right (a := v.toList.flatMap (be n)) (t := t) (n := k) (hlength ▸ h)

end Vectors

theorem readTariffFields_body {f : TariffFields} (h : f.wellFormed = true) :
    readTariffFields (requestBody (.tariffSet f)) = f := by
  obtain ⟨carrier, direction, rates, fee, minimum, increment, factors, cap⟩ := f
  simp only [TariffFields.wellFormed, Bool.and_eq_true, isByte_iff, isWord_iff, decide_eq_true_iff, Vector.all_eq_true] at h
  obtain ⟨⟨⟨⟨⟨⟨⟨hcarrier, hdirection⟩, hrates⟩, hfee⟩, hminimum⟩, hincrement⟩, hfactors⟩, hcap⟩ := h
  have hrate : ∀ i : Fin 32, 2 + 2 * i.val - 1 - 1 = 2 * i.val := fun i => by omega
  have hfactor : ∀ i : Fin 5, 71 + 2 * i.val - 1 - 1 - 2 * 32 - 2 - 2 - 1 = 2 * i.val := fun i => by omega
  simp only [readTariffFields, requestBody, List.append_assoc, TariffFields.mk.injEq]
  refine ⟨?_, ?_, ?_, ?_, ?_, ?_, ?_, ?_⟩
  case refine_3 =>
    simp (disch := omega) only [field_be_skip, hrate]
    exact readVector hrates
  case refine_7 =>
    simp (disch := omega) only [field_be_skip, field_vector_skip, hfactor]
    exact readVector hfactors
  all_goals simp [field_be, field_be_append, field_be_skip, field_vector_skip, Nat.mod_eq_of_lt, *]

/-! ### Every request -/

/-- The request that a kind code and a body spell is the one whose fields were written, kind by kind (R196). -/
theorem readRequest_requestBody {i : Instr} {k : Byte} (h : i.wellFormed = true) (hk : requestCode i = some k) :
    readRequest k.toNat (requestBody i) = some i := by
  cases i
  case weekSet days =>
    cases hk
    simp only [Instr.wellFormed, Vector.all_eq_true, isByte_iff] at h
    simpa [readRequest, requestBody] using readVector (n := 1) (t := []) h
  case tariffSet f =>
    cases hk
    exact congrArg (fun f => some (Instr.tariffSet f)) (readTariffFields_body h)
  case listSet l es =>
    cases hk
    simp only [Instr.wellFormed, Bool.and_eq_true, List.all_eq_true, isByte_iff, isWord_iff] at h
    simp [readRequest, requestBody, field_be_append, drop_be, readPairs_flatMap h.2, Nat.mod_eq_of_lt, h]
  case calendarSet d p bs =>
    cases hk
    simp only [Instr.wellFormed, Bool.and_eq_true, List.all_eq_true, isByte_iff, isWord_iff] at h
    simp [readRequest, requestBody, field_be_append, field_be_skip, drop_be, readPairs_flatMap h.2, Nat.mod_eq_of_lt, h]
  case eventConfig m mask e es =>
    cases hk
    simp only [Instr.wellFormed, Bool.and_eq_true, List.all_eq_true, isByte_iff] at h
    have hentries : ∀ x ∈ es, x.1 < 256 ∧ x.2.1 < 256 ∧ x.2.2 < 256 := fun x hx => and_assoc.1 (h.2 x hx)
    simp [readRequest, requestBody, field_be_append, field_be_skip, drop_be, readTriples_flatMap hentries,
      Nat.mod_eq_of_lt, h]
    exact ofNat_toNat_mod mask
  case route n b d =>
    cases hk
    simp only [Instr.wellFormed, Bool.and_eq_true, isByte_iff, isWord_iff] at h
    simp [readRequest, requestBody, field_be_append, field_be_skip, readDigitField_skip, readDigitField_digits h.2,
      Nat.mod_eq_of_lt, h]
  case farMark d l t =>
    cases hk
    simp only [Instr.wellFormed, Bool.and_eq_true, isByte_iff, isWord_iff] at h
    simp [readRequest, requestBody, readDigitField_digits_append h.1.1, field_digits_skip h.1.1, field_be, field_be_append,
      field_be_skip, Nat.mod_eq_of_lt, h]
  case destSet d l =>
    cases hk
    simp only [Instr.wellFormed, Bool.and_eq_true, isWord_iff] at h
    simp [readRequest, requestBody, readDigitField_digits_append h.1, field_digits_skip h.1, field_be, Nat.mod_eq_of_lt, h]
  case destClear d =>
    cases hk
    simp [readRequest, requestBody, readDigitField_digits h]
  case seizeIn g m q p =>
    cases hk
    simp only [Instr.wellFormed, Bool.and_eq_true, isByte_iff, isWord_iff] at h
    simp [readRequest, requestBody, field_be, field_be_append, field_be_skip, Nat.mod_eq_of_lt, h]
    exact ofNat_toNat_mod q
  case trafficRestart =>
    cases hk
    rfl
  -- The other requests are a row of plain fields, and the steps of the part have no kind code.
  all_goals
    cases hk
    all_goals
      simp only [Instr.wellFormed, GroupFields.wellFormed, OverlayFields.wellFormed, Bool.and_eq_true, isByte_iff, isWord_iff,
        decide_eq_true_iff] at h
      simp [readRequest, requestBody, readGroupFields, readOverlayFields, field_be, field_be_append, field_be_skip,
        Nat.mod_eq_of_lt, h]

/-- A request's body has the length R196 gives its kind. -/
theorem requestLength_requestBody {i : Instr} {k : Byte} (h : i.wellFormed = true) (hk : requestCode i = some k) :
    requestLength k.toNat (requestBody i) = some (requestBody i).length := by
  cases i
  case seizeIn => exact Laws.WireForm.seizeIn _ _ _ _ h k hk
  case route => exact Laws.WireForm.route _ _ _ h k hk
  case continueCall => exact Laws.WireForm.continueCall _ h k hk
  case confirm => exact Laws.WireForm.confirm _ _ _ h k hk
  case failCall => exact Laws.WireForm.failCall _ _ _ _ _ h k hk
  case answer => exact Laws.WireForm.answer _ h k hk
  case release => exact Laws.WireForm.release _ h k hk
  case farMark => exact Laws.WireForm.farMark _ _ _ h k hk
  case groupDefine => exact Laws.WireForm.groupDefine _ h k hk
  case groupBlock => exact Laws.WireForm.groupBlock _ h k hk
  case groupUnblock => exact Laws.WireForm.groupUnblock _ h k hk
  case circuitBlock => exact Laws.WireForm.circuitBlock _ _ h k hk
  case circuitUnblock => exact Laws.WireForm.circuitUnblock _ _ h k hk
  case destSet => exact Laws.WireForm.destSet _ _ h k hk
  case destClear => exact Laws.WireForm.destClear _ h k hk
  case listSet => exact Laws.WireForm.listSet _ _ h k hk
  case overlaySet => exact Laws.WireForm.overlaySet _ h k hk
  case overlayArm => exact Laws.WireForm.overlayArm _ h k hk
  case overlayDisarm => exact Laws.WireForm.overlayDisarm _ h k hk
  case overlayFire => exact Laws.WireForm.overlayFire _ h k hk
  case overlayRevert => exact Laws.WireForm.overlayRevert _ h k hk
  case tariffSet => exact Laws.WireForm.tariffSet _ h k hk
  case calendarSet => exact Laws.WireForm.calendarSet _ _ _ h k hk
  case weekSet => exact Laws.WireForm.weekSet _ h k hk
  case timeSet => exact Laws.WireForm.timeSet _ _ _ h k hk
  case carrierLimits => exact Laws.WireForm.carrierLimits _ _ _ h k hk
  case carrierBar => exact Laws.WireForm.carrierBar _ _ h k hk
  case guardMode => exact Laws.WireForm.guardMode _ _ h k hk
  case eventConfig => exact Laws.WireForm.eventConfig _ _ _ _ h k hk
  case periodClose => exact Laws.WireForm.periodClose _ h k hk
  case recordsFetch => exact Laws.WireForm.recordsFetch _ h k hk
  case query => exact Laws.WireForm.query _ _ _ _ h k hk
  case trafficRestart => exact Laws.WireForm.trafficRestart h k hk
  all_goals cases hk

/-- Settles O17: a well-formed request's body has its kind's length, and its fields are read back one by one. -/
theorem requestBodyReadsBack : Obligations.RequestBodyReadsBack := by
  intro i k h hk
  simp only [judge, requestLength_requestBody h hk, readRequest_requestBody h hk, if_true]

end Sys2Proof.Proofs.Link


/-! ## The link: frames received -/

namespace Sys2Proof.Proofs.Link

open Sys2Proof Sys2Proof.Machine Sys2Proof.Proofs.ChargeRecords Sys2Proof.Proofs.Steps Sys2Proof.Proofs.Requests

/-! ### The bytes between two delimiters (R181) -/

section Bytes
variable {s : State} {r : Receiver} {wire : List Byte}

theorem setRx_self : s.setRx s.lnk.rx = s := rfl

/-- Bytes that are no delimiters are for the receiver alone. -/
theorem foldl_receive (h : 0xA5 ∉ wire) : wire.foldl State.receive s = s.setRx (wire.foldl Receiver.byte s.lnk.rx) := by
  induction wire generalizing s with
  | nil => rfl
  | cons b t ih =>
    rw [List.mem_cons, not_or] at h
    obtain ⟨hb, ht⟩ := h
    rw [List.foldl_cons, List.foldl_cons, ih ht, State.receive, if_neg (Ne.symm hb)]
    rfl

/-- The command's bytes, and then the closing delimiter, unless the reset input is held (log 16). -/
theorem exec_frameComplete (hphase : s.lnk.phase ≠ .inReset) (wire : List Byte) :
    exec (.frameComplete wire) s = .next (wire.foldl State.receive s).delimiter := by
  simp only [exec, execFrameComplete]
  split
  · exact absurd ‹_› hphase
  · rfl
  · rfl

/-- What the closing delimiter makes of the bytes before it: nothing before the first delimiter or without a byte, else a frame to
be judged. -/
theorem exec_frameComplete_undelimited (hphase : s.lnk.phase ≠ .inReset) (h : 0xA5 ∉ wire) :
    exec (.frameComplete wire) s =
      .next (if !(wire.foldl Receiver.byte s.lnk.rx).synced || (wire.foldl Receiver.byte s.lnk.rx).isEmpty
        then s.setRx Receiver.begun else (s.setRx Receiver.begun).judgeFrame (wire.foldl Receiver.byte s.lnk.rx)) := by
  rw [exec_frameComplete hphase, foldl_receive h]
  rfl

/-- Before the first delimiter every byte is discarded (R181). -/
theorem foldl_byte_unsynced (h : r.synced = false) : wire.foldl Receiver.byte r = r := by
  induction wire with
  | nil => rfl
  | cons b t ih =>
    have hb : r.byte b = r := by simp [Receiver.byte, h]
    rw [List.foldl_cons, hb, ih]

theorem byte_synced (h : r.synced = true) (b : Byte) : (r.byte b).synced = true := by
  unfold Receiver.byte
  split_ifs <;> simp_all

theorem foldl_byte_synced (h : r.synced = true) : (wire.foldl Receiver.byte r).synced = true :=
  List.foldlRecOn (motive := fun r : Receiver => r.synced = true) wire _ h fun _ hr b _ => byte_synced hr b

/-- A receiver is not empty after a byte. -/
theorem byte_not_empty (h : r.synced = true) (b : Byte) : (r.byte b).isEmpty = false := by
  unfold Receiver.byte
  split_ifs <;> simp_all [Receiver.isEmpty]

theorem foldl_byte_not_empty (h : r.synced = true) (hwire : wire ≠ []) : (wire.foldl Receiver.byte r).isEmpty = false := by
  rw [← List.dropLast_append_getLast hwire, List.foldl_append]
  exact byte_not_empty (foldl_byte_synced h) _

end Bytes

/-! ### Escaping (R181) -/

section Receiver
variable {r : Receiver} (hsynced : r.synced = true)
include hsynced

theorem byte_mark (hescape : r.escape = false) : r.byte 0xA6 = { r with escape := true } := by
  simp [Receiver.byte, hsynced, hescape]

theorem byte_plain (hescape : r.escape = false) {b : Byte} (hb : b ≠ 0xA6) :
    r.byte b = { r with collected := r.collected ++ [b] } := by
  unfold Receiver.byte
  rw [hsynced, hescape, if_neg hb]
  rfl

theorem byte_unescaped (hescape : r.escape = true) {b : Byte} (hb : b = 0x85 ∨ b = 0x86) :
    r.byte b = { r with escape := false, collected := r.collected ++ [b ^^^ 0x20] } := by
  unfold Receiver.byte
  rw [hsynced, hescape, if_pos hb]
  rfl

theorem byte_bad (hescape : r.escape = true) {b : Byte} (hb : ¬ (b = 0x85 ∨ b = 0x86)) :
    r.byte b = { r with escape := false, bad := true } := by
  unfold Receiver.byte
  rw [hsynced, hescape, if_neg hb]
  rfl

end Receiver

theorem escape_escaped {b : Byte} (h : b = 0xA5 ∨ b = 0xA6) :
    (b ^^^ 0x20 = 0x85 ∨ b ^^^ 0x20 = 0x86) ∧ b ^^^ 0x20 ^^^ 0x20 = b ∧ 0xA5 ≠ b ^^^ 0x20 := by
  rcases h with rfl | rfl <;> decide

theorem escapeBytes_no_delimiter (l : List Byte) : 0xA5 ∉ escapeBytes l := by
  induction l with
  | nil => simp [escapeBytes]
  | cons b t ih =>
    unfold escapeBytes
    split_ifs with h
    · obtain ⟨-, -, hne⟩ := escape_escaped h
      rw [List.mem_cons, List.mem_cons, not_or, not_or]
      exact ⟨by decide, hne, ih⟩
    · rw [List.mem_cons, not_or]
      exact ⟨Ne.symm (not_or.1 h).1, ih⟩

/-- The receiver undoes the escaping. -/
theorem foldl_byte_escapeBytes (l c : List Byte) :
    (escapeBytes l).foldl Receiver.byte ⟨true, c, false, false⟩ = ⟨true, c ++ l, false, false⟩ := by
  induction l generalizing c with
  | nil => simp [escapeBytes]
  | cons b t ih =>
    unfold escapeBytes
    split_ifs with h
    · obtain ⟨hmark, hback, -⟩ := escape_escaped h
      rw [List.foldl_cons, List.foldl_cons, byte_mark rfl rfl, byte_unescaped rfl rfl hmark, hback, ih, List.append_assoc,
        List.singleton_append]
    · rw [List.foldl_cons, byte_plain rfl rfl (not_or.1 h).2, ih, List.append_assoc, List.singleton_append]

/-! ### A frame as it is sent (R182, R201) -/

section Sent
variable (kind : Byte) (tag : BitVec 16) (body : List Byte)

/-- A frame's header and body. -/
def frameHead : List Byte := be 2 body.length ++ [kind] ++ be 2 tag.toNat ++ body

theorem frameHead_length : (frameHead kind tag body).length = 5 + body.length := by simp [frameHead]; omega

theorem frameContent_eq :
    frameContent kind tag body = frameHead kind tag body ++ be 2 (crc (frameHead kind tag body)).toNat := rfl

theorem frameContent_length : (frameContent kind tag body).length = 5 + body.length + 2 := by
  rw [frameContent_eq, List.length_append, frameHead_length, be_length]

theorem frameContent_eq_cons : frameContent kind tag body =
    be 2 body.length ++ (be 1 kind.toNat ++ (be 2 tag.toNat ++ (body ++ be 2 (crc (frameHead kind tag body)).toNat))) := by
  simp [frameContent_eq, frameHead, be]

variable {kind tag body} (h : body.length ≤ 480)
include h

theorem field_length_frameContent : field (frameContent kind tag body) 0 2 = body.length := by
  rw [frameContent_eq_cons, field_be_append]
  omega

omit h in
theorem drop_frameContent : (frameContent kind tag body).drop 5 = body ++ be 2 (crc (frameHead kind tag body)).toNat := by
  rw [frameContent_eq_cons, drop_be (by omega), drop_be (by omega), drop_be (by omega)]
  rfl

omit h in
theorem take_frameContent : (frameContent kind tag body).take (5 + body.length) = frameHead kind tag body := by
  rw [frameContent_eq, List.take_left' (frameHead_length kind tag body)]

omit h in
theorem field_check_frameContent :
    field (body ++ be 2 (crc (frameHead kind tag body)).toNat) body.length 2 = (crc (frameHead kind tag body)).toNat := by
  rw [field_append_right (le_refl _), Nat.sub_self, field_be]
  exact Nat.mod_eq_of_lt (BitVec.isLt _)

/-- A frame sent by R181 and R182 passes every test of R183. -/
theorem frameFault_frameContent : frameFault ⟨true, frameContent kind tag body, false, false⟩ = none := by
  simp only [frameFault, Bool.or_self, Bool.false_eq_true, if_false, field_length_frameContent h, drop_frameContent,
    take_frameContent, field_check_frameContent, frameContent_length, List.length_append, be_length]
  simp [Config.maxBody]
  rw [if_neg (by omega), if_neg (by omega)]

theorem inFrameOf_frameContent (n : Count) : inFrameOf n (frameContent kind tag body) = ⟨kind, tag, body, n⟩ := by
  have hkind : field (frameContent kind tag body) 2 1 = kind.toNat := by
    rw [frameContent_eq_cons, field_be_skip (by omega), field_be_append]
    exact Nat.mod_eq_of_lt kind.isLt
  have htag : field (frameContent kind tag body) 3 2 = tag.toNat := by
    rw [frameContent_eq_cons, field_be_skip (by omega), field_be_skip (by omega), field_be_append]
    exact Nat.mod_eq_of_lt tag.isLt
  simp [inFrameOf, hkind, htag, field_length_frameContent h, drop_frameContent]

end Sent

/-- Settles O18: the receiver undoes the escaping, and the frame passes every test. -/
theorem frameOnTheWireIsQueued : Obligations.FrameOnTheWireIsQueued := by
  intro s kind tag body hbody hphase hrx
  have hcollected : (escapeBytes (frameContent kind tag body)).foldl Receiver.byte s.lnk.rx =
      ⟨true, frameContent kind tag body, false, false⟩ := by
    rw [hrx, foldl_byte_escapeBytes, List.nil_append]
  have hfull : (⟨true, frameContent kind tag body, false, false⟩ : Receiver).isEmpty = false := by
    simp [Receiver.isEmpty, frameContent_eq_cons, be]
  have hbegun : s.setRx Receiver.begun = s := by rw [← setRx_self (s := s), hrx]; rfl
  rw [exec_frameComplete_undelimited hphase (escapeBytes_no_delimiter _), hcollected, hfull, hbegun]
  simp only [Bool.not_true, Bool.or_self, Bool.false_eq_true, if_false, State.judgeFrame, frameFault_frameContent hbody,
    inFrameOf_frameContent hbody]
  by_cases hroom : s.lnk.inbound.length < 16
  · rw [if_neg (Nat.not_le.2 hroom), if_pos hroom]
  · rw [if_pos (Nat.not_lt.1 hroom), if_neg hroom]
    rfl

/-! ### Discards (R183) -/

/-- The tests of R183 on the bytes collected, with the check read from the end of the frame. -/
theorem frameFault_eq (r : Receiver) :
    frameFault r =
      if r.bad = true ∨ r.escape = true then some .badCheck
      else if r.collected.length < 7 then some .badCheck
      else if 480 < field r.collected 0 2 then some .oversize
      else if r.collected.length ≠ 5 + field r.collected 0 2 + 2 then some .badCheck
      else if crc (r.collected.take (5 + field r.collected 0 2)) ≠
        BitVec.ofNat 16 (ofBe (r.collected.drop (5 + field r.collected 0 2))) then some .badCheck
      else none := by
  have hcheck : r.collected.length = 5 + field r.collected 0 2 + 2 →
      field (r.collected.drop 5) (field r.collected 0 2) 2 = ofBe (r.collected.drop (5 + field r.collected 0 2)) := fun hlength => by
    rw [field, List.drop_drop, List.take_of_length_le (by rw [List.length_drop]; omega)]
  have hlength : ¬ r.collected.length < 7 →
      ((r.collected.drop 5).length ≠ field r.collected 0 2 + 2 ↔ r.collected.length ≠ 5 + field r.collected 0 2 + 2) := fun h => by
    rw [List.length_drop]
    omega
  unfold frameFault
  simp only [Bool.or_eq_true]
  refine ite_congr rfl (fun _ => rfl) fun _ => ite_congr rfl (fun _ => rfl) fun hshort => ite_congr rfl (fun _ => rfl) fun _ =>
    ite_congr (propext (hlength hshort)) (fun _ => rfl) fun hlong => ?_
  rw [hcheck (not_not.1 hlong)]

/-- The tests of R183 and R185 on a frame, in their order. -/
theorem judgeFrame_eq (s : State) (r : Receiver) :
    s.judgeFrame r =
      if r.bad = true ∨ r.escape = true then s.discard .badCheck
      else if r.collected.length < 7 then s.discard .badCheck
      else if 480 < field r.collected 0 2 then s.discard .oversize
      else if r.collected.length ≠ 5 + field r.collected 0 2 + 2 then s.discard .badCheck
      else if crc (r.collected.take (5 + field r.collected 0 2)) ≠
        BitVec.ofNat 16 (ofBe (r.collected.drop (5 + field r.collected 0 2))) then s.discard .badCheck
      else if 16 ≤ s.lnk.inbound.length then s.discard .overrun
      else { s with lnk := { s.lnk with inbound := s.lnk.inbound ++ [inFrameOf s.clk.count r.collected] } } := by
  unfold State.judgeFrame
  rw [frameFault_eq]
  split_ifs <;> rfl

/-! ### Between two commands -/

@[simp] theorem discard_phase (s : State) (c : LinkCause) : (s.discard c).lnk.phase = s.lnk.phase := by
  cases c <;> simp [State.discard]

@[simp] theorem discard_rx (s : State) (c : LinkCause) : (s.discard c).lnk.rx = s.lnk.rx := by
  cases c <;> simp [State.discard]

theorem judgeFrame_link (s : State) (r : Receiver) :
    (s.judgeFrame r).lnk.phase = s.lnk.phase ∧ (s.judgeFrame r).lnk.rx = s.lnk.rx := by
  rw [judgeFrame_eq]
  split_ifs <;> simp

/-- After a delimiter the next frame is being collected, in the phase before. -/
theorem delimiter_link (s : State) : s.delimiter.lnk.phase = s.lnk.phase ∧ s.delimiter.lnk.rx = Receiver.begun := by
  unfold State.delimiter
  dsimp only
  split_ifs
  · exact ⟨rfl, rfl⟩
  · obtain ⟨hphase, hrx⟩ := judgeFrame_link (s.setRx Receiver.begun) s.lnk.rx
    exact ⟨hphase, hrx⟩

theorem receive_phase (s : State) (b : Byte) : (s.receive b).lnk.phase = s.lnk.phase := by
  unfold State.receive
  split_ifs
  · exact (delimiter_link s).1
  · rfl

theorem foldl_receive_phase (s : State) (wire : List Byte) : (wire.foldl State.receive s).lnk.phase = s.lnk.phase :=
  List.foldlRecOn (motive := fun t : State => t.lnk.phase = s.lnk.phase) wire _ rfl fun t ht b _ => (receive_phase t b).trans ht

/-- A delimiter among the bytes ends one frame and begins the next (R181). -/
theorem exec_frameComplete_split {s t : State} {first : List Byte} (h : exec (.frameComplete first) s = .next t) (later : List Byte) :
    exec (.frameComplete (first ++ 0xA5 :: later)) s = exec (.frameComplete later) t := by
  by_cases hphase : s.lnk.phase = .inReset
  · simp only [exec, execFrameComplete, hphase] at h ⊢
    cases h
    rw [hphase]
  · rw [exec_frameComplete hphase] at h
    cases h
    have hlater : (first.foldl State.receive s).delimiter.lnk.phase ≠ .inReset := by
      rwa [(delimiter_link _).1, foldl_receive_phase]
    rw [exec_frameComplete hphase, exec_frameComplete hlater, List.foldl_append]
    rfl

/-- No frame is being collected: LNK has just seen a delimiter, or none since the reset (R181). -/
def AtRest (r : Receiver) : Prop := r = Receiver.begun ∨ r = ⟨false, [], false, false⟩

/-- The receiver and the phase are as they were. -/
def SameReception (s t : State) : Prop := t.lnk.rx = s.lnk.rx ∧ t.lnk.phase = s.lnk.phase

theorem moves_sameReception {s t : State} (h : Moves s t) : SameReception s t := by
  obtain ⟨⟨_, _, _, hlnk⟩, -⟩ := moves_link h
  exact ⟨by rw [hlnk], by rw [hlnk]⟩

theorem exec_moves_sameReception {o : Host.Outcome State Fault Refusal} {s t : State} (h : ∃ t, o = .next t ∧ Moves s t)
    (ho : o = .next t) : SameReception s t := by
  obtain ⟨u, hu, hmoves⟩ := h
  cases hu.symm.trans ho
  exact moves_sameReception hmoves

theorem choose_sameReception (s : State) : SameReception s s.choose := by
  unfold State.choose
  split <;> try split_ifs
  all_goals exact ⟨rfl, rfl⟩

theorem idleChoice_sameReception (s : State) : SameReception s s.idleChoice := by
  unfold State.idleChoice
  split_ifs
  · exact choose_sameReception s
  · exact ⟨rfl, rfl⟩

theorem completeSweep_sameReception (s : State) (w : Sweep) : SameReception s (s.completeSweep w) := by
  constructor <;> simp [State.completeSweep, State.restartValues]

theorem exec_request_sameReception {c : Instr} {k : Byte} (hk : requestCode c = some k) {s t : State} (h : exec c s = .next t) :
    SameReception s t := by
  by_cases hrestart : c = .trafficRestart
  · subst hrestart
    simp only [exec, execTrafficRestart, Host.Outcome.next.injEq] at h
    subst h
    split <;> try split_ifs
    all_goals exact ⟨rfl, rfl⟩
  · obtain ⟨b, act, hexec, hact, -⟩ := exec_served hk hrestart
    cases (hexec s).symm.trans h
    cases ht : s.takes? c with
    | none => rw [serve_untaken ht]; exact ⟨rfl, rfl⟩
    | some x =>
      rcases TrunkGroups.serve_cases ht k b act with hserve | hserve <;> rw [hserve]
      · exact ⟨rfl, rfl⟩
      · obtain ⟨hrx, hphase⟩ := moves_sameReception (hact x.arrival (s.withHanded x))
        exact ⟨hrx, hphase⟩

/-- Only the end of a frame, the end of the start-up clear and the resets touch the receiver or the phase. -/
theorem exec_sameReception {c : Instr} {s t : State} (h : exec c s = .next t) (hframe : ∀ wire, c ≠ .frameComplete wire)
    (hstart : c ≠ .startUpClearEnd) (hpower : c ≠ .powerOnReset) (hreset : c ≠ .resetInputAsserted) : SameReception s t := by
  cases hk : requestCode c with
  | some k => exact exec_request_sameReception hk h
  | none =>
    cases c
    case sweepContextVisit => exact exec_moves_sameReception (execSweepContextVisit_moves s) h
    case guardTimerExpiry g m => exact exec_moves_sameReception (execGuardTimerExpiry_moves s g m) h
    case seizeTimerExpiry g m => exact exec_moves_sameReception (execSeizeTimerExpiry_moves s g m) h
    case sampleTimerExpiry g => exact exec_moves_sameReception (execSampleTimerExpiry_moves s g) h
    case markExpiry i => exact exec_moves_sameReception (execMarkExpiry_moves s i) h
    case sweepCompletion =>
      cases h
      split
      · split_ifs
        · exact ⟨rfl, rfl⟩
        · exact completeSweep_sameReception s _
      · exact ⟨rfl, rfl⟩
      · exact ⟨rfl, rfl⟩
    case midnightRollover =>
      cases h
      split_ifs <;> exact ⟨rfl, rfl⟩
    case endOfDecisecond =>
      cases h
      split <;> exact ⟨rfl, rfl⟩
    case takeFrame =>
      cases h
      split
      · exact ⟨rfl, rfl⟩
      · split_ifs
        · dsimp only
          split <;> exact ⟨rfl, rfl⟩
        · exact ⟨rfl, rfl⟩
    case transmitterChoice =>
      cases h
      exact idleChoice_sameReception s
    case frameSent =>
      cases h
      split_ifs
      · exact ⟨rfl, rfl⟩
      · obtain ⟨hrx, hphase⟩ := choose_sameReception { s with lnk := { s.lnk with sending := none } }
        exact ⟨hrx, hphase⟩
    case frameComplete wire => exact absurd rfl (hframe wire)
    case startUpClearEnd => exact absurd rfl hstart
    case powerOnReset => exact absurd rfl hpower
    case resetInputAsserted => exact absurd rfl hreset
    all_goals cases hk

theorem exec_startUpClearEnd {s : State} (hphase : s.lnk.phase = .clearing) :
    exec .startUpClearEnd s = .next (s.run.raise (.startup s.clk.count)).idleChoice := by
  simp only [exec, execStartUpClearEnd, hphase]

theorem startUpClearEnd_link {s t : State} (h : exec .startUpClearEnd s = .next t) :
    t.lnk.rx = s.lnk.rx ∧ (t.lnk.phase = s.lnk.phase ∨ t.lnk.phase = .running) := by
  by_cases hphase : s.lnk.phase = .clearing
  · rw [exec_startUpClearEnd hphase] at h
    cases h
    obtain ⟨hrx, hrun⟩ := idleChoice_sameReception (s.run.raise (.startup s.clk.count))
    rw [raise_lnk] at hrx hrun
    exact ⟨hrx, .inr hrun⟩
  · rw [startUpClearEnd_absent hphase] at h
    cases h
    exact ⟨rfl, .inl rfl⟩

theorem frameComplete_link {s t : State} {wire : List Byte} (h : exec (.frameComplete wire) s = .next t) :
    (t.lnk.rx = s.lnk.rx ∨ t.lnk.rx = Receiver.begun) ∧ t.lnk.phase = s.lnk.phase := by
  by_cases hphase : s.lnk.phase = .inReset
  · simp only [exec, execFrameComplete, hphase] at h
    cases h
    exact ⟨.inl rfl, rfl⟩
  · rw [exec_frameComplete hphase] at h
    cases h
    obtain ⟨hsame, hrx⟩ := delimiter_link (wire.foldl State.receive s)
    exact ⟨.inr hrx, hsame.trans (foldl_receive_phase s wire)⟩

/-- A command leaves the receiver as it is, or at rest. -/
theorem exec_rx {c : Instr} {s t : State} (h : exec c s = .next t) : t.lnk.rx = s.lnk.rx ∨ AtRest t.lnk.rx := by
  by_cases hframe : ∃ wire, c = .frameComplete wire
  · obtain ⟨wire, rfl⟩ := hframe
    exact (frameComplete_link h).1.imp id .inl
  by_cases hstart : c = .startUpClearEnd
  · subst hstart
    exact .inl (startUpClearEnd_link h).1
  by_cases hreset : c = .powerOnReset ∨ c = .resetInputAsserted
  · rcases hreset with rfl | rfl <;> cases h <;> exact .inr (.inr rfl)
  · exact .inl (exec_sameReception h (not_exists.1 hframe) hstart (not_or.1 hreset).1 (not_or.1 hreset).2).1

/-- Between two commands no frame is being collected (R181). -/
theorem step_atRest {s t : State} (hs : AtRest s.lnk.rx) (h : step s = .next t) : AtRest t.lnk.rx := by
  unfold step at h
  split at h
  · cases h
    exact hs
  · rcases exec_rx h with hsame | hrest
    · rw [hsame]
      exact hs
    · exact hrest

/-- Settles O19: the receiver byte by byte, the tests of R183 in their order, and the bytes split at a delimiter. -/
theorem frameTestsDecideTheDiscard : Obligations.FrameTestsDecideTheDiscard := by
  refine ⟨fun s wire hphase hrx hwire => ?_, fun r hsynced => ⟨fun hescape b _ => ?_, fun hescape b _ => ?_⟩,
    fun s wire hphase hrx hwire => ?_, fun s t first later h => exec_frameComplete_split h later, fun s t => step_atRest⟩
  · have hbegun : s.setRx Receiver.begun = s := by rw [← setRx_self (s := s), hrx]; rfl
    have hsynced := foldl_byte_synced (wire := wire) (r := ⟨true, [], false, false⟩) rfl
    rw [exec_frameComplete_undelimited hphase hwire, hbegun, hrx, hsynced]
    by_cases hempty : wire = []
    · subst hempty
      rfl
    · rw [foldl_byte_not_empty rfl hempty, judgeFrame_eq]
      simp only [Bool.not_true, Bool.or_self, Bool.false_eq_true, if_false, hempty]
      split_ifs <;> rfl
  · split_ifs with hmark
    · rw [hmark, byte_mark hsynced hescape]
    · exact byte_plain hsynced hescape hmark
  · split_ifs with h85 h86
    · rw [byte_unescaped hsynced hescape (.inl h85), h85]
      rfl
    · rw [byte_unescaped hsynced hescape (.inr h86), h86]
      rfl
    · exact byte_bad hsynced hescape (by simp only [h85, h86, or_self, not_false_eq_true])
  · rw [exec_frameComplete_undelimited hphase hwire, hrx, foldl_byte_unsynced rfl]
    rfl

end Sys2Proof.Proofs.Link


/-! ## The link: frames taken and sent, and start-up -/

namespace Sys2Proof.Proofs.Link

open Sys2Proof Sys2Proof.Machine Sys2Proof.Proofs.ChargeRecords Sys2Proof.Proofs.Steps Sys2Proof.Proofs.Requests

/-! ### Lengths (R198, R199, R202, R203) -/

theorem beOr_length (n : Nat) (v : Option Nat) : (beOr n v).length = n := by
  cases v <;> simp [beOr]

theorem periodPlaces_length (l : List (Nat × Nat)) : (periodPlaces l).length = 16 := by
  refine flatMap_length _ 4 (fun i => ?_) (List.range 4)
  split <;> simp

theorem recordBytes_length (r : ChargeRecord) : (recordBytes r).length = 58 := by
  simp [recordBytes, recordLeg, recordBill, beOr_length, periodPlaces_length]

theorem eventDetail_length (e : Event) : (eventDetail e).length ≤ 6 := by
  cases e <;> simp [eventDetail, flag]

theorem noticeBytes_length (n : Notice) : (noticeBytes n).length = 15 := by
  have hdetail := eventDetail_length n.event
  simp only [noticeBytes, fillTo, List.length_append, be_length, beOr_length, List.length_replicate]
  omega

theorem detailBytes_length (o : Selection) : (detailBytes o).length = 12 := by
  cases o <;> simp [detailBytes, skipsBytes]

theorem statementBytes_length (x : Option Statement) : (statementBytes x).length = 27 := by
  cases x <;> simp [statementBytes, flag]

/-- Settles O20, message by message. -/
theorem messagesHaveTheirLengths : Obligations.MessagesHaveTheirLengths := by
  refine ⟨recordBytes_length, noticeBytes_length, detailBytes_length, statementBytes_length, fun rs fill => ?_, fun n => ?_,
    fun n y o => ?_⟩
  · simp only [answerBytes, acceptedBytes, List.length_append, be_length, flatMap_length recordBytes 58 recordBytes_length]
    omega
  · simp [answerBytes, acceptedBytes]
  · simp [answerBytes, acceptedBytes, detailBytes_length]

/-! ### Frames taken (R186, R187) -/

/-- A kind code with a body length is a request's, and below 0x80 (R187, R196). -/
theorem requestLength_some {kind n : Nat} {body : List Byte} (h : requestLength kind body = some n) :
    kind < 0x80 ∧ ∃ i, readRequest kind body = some i := by
  unfold requestLength at h
  split at h
  all_goals first | exact ⟨by decide, _, rfl⟩ | cases h

section Taken
variable {s : State} {f : InFrame} {q : List InFrame}

theorem exec_takeFrame (hinbound : s.lnk.inbound = f :: q) (hphase : s.lnk.phase = .running) (hhanded : s.lnk.handed = none)
    (hfree : 0 < s.freePlaces) : exec .takeFrame s = .next
      (match judge f.kind f.body with
      | .unknownKind => { s with lnk := { s.lnk with inbound := q } }.answerFrame f (.unknownKind f.kind)
      | .wrongLength => { s with lnk := { s.lnk with inbound := q } }.answerFrame f (.badLength f.body.length)
      | .request i => { s with lnk := { s.lnk with inbound := q } }.withHanded ⟨f.tag, f.arrival, i⟩) := by
  simp only [exec, execTakeFrame, hinbound, hphase, hhanded, hfree, and_self, if_true] <;> rfl

end Taken

/-- Settles O21: the kind is judged first, then the length, and a request's fields are read back. -/
theorem takenFrameIsJudged : Obligations.TakenFrameIsJudged := by
  intro s f q hinbound hphase hhanded hfree
  refine ⟨fun i hwf hk hbody => ?_, fun hnone => ?_, fun n hsome hne => ?_⟩ <;>
    rw [exec_takeFrame hinbound hphase hhanded hfree]
  · rw [hbody, requestBodyReadsBack i f.kind hwf hk]
    rfl
  · have hjudge : judge f.kind f.body = .unknownKind := by simp only [judge, hnone]
    rw [hjudge]
    rfl
  · obtain ⟨hkind, i, hi⟩ := requestLength_some hsome
    have hjudge : judge f.kind f.body = .wrongLength := by simp only [judge, hsome, hi, if_neg hne]
    have hcode : replyCode f.kind = f.kind + 0x80 := if_pos hkind
    rw [hjudge]
    simp only [State.answerFrame, hcode]

/-! ### The transmitter (R177, R190) -/

/-- The notice picked has the highest rank, and is the oldest of that rank (R177). -/
theorem pick_spec (e : Enu) {l : List Notice} (hl : l ≠ []) : ∃ before n after, e.pick l = some n ∧ l = before ++ n :: after ∧
    (∀ m ∈ before, e.rank m < e.rank n) ∧ ∀ m ∈ after, e.rank m ≤ e.rank n := by
  induction l with
  | nil => exact absurd rfl hl
  | cons x t ih =>
    by_cases ht : t = []
    · subst ht
      exact ⟨[], x, [], rfl, rfl, by simp, by simp⟩
    · obtain ⟨before, n, after, hpick, rfl, hbefore, hafter⟩ := ih ht
      by_cases hlt : e.rank x < e.rank n
      · refine ⟨x :: before, n, after, by simp [Enu.pick, hpick, hlt], rfl, fun m hm => ?_, hafter⟩
        rcases List.mem_cons.1 hm with rfl | hm
        · exact hlt
        · exact hbefore m hm
      · refine ⟨[], x, before ++ n :: after, by simp [Enu.pick, hpick, hlt], rfl, by simp, fun m hm => ?_⟩
        have hle := Nat.not_lt.1 hlt
        rcases List.mem_append.1 hm with hm | hm
        · exact (hbefore m hm).le.trans hle
        · rcases List.mem_cons.1 hm with rfl | hm
          · exact hle
          · exact (hafter m hm).trans hle

theorem erase_pick {e : Enu} {before after : List Notice} {n : Notice} (h : ∀ m ∈ before, e.rank m < e.rank n) :
    (before ++ n :: after).erase n = before ++ after := by
  rw [List.erase_append_right _ fun hn => (h n hn).ne rfl, List.erase_cons_head]

/-- The occasions of a choice: an idle transmitter, or one whose frame ends (R190). -/
theorem exec_choice {c : Instr} {s : State}
    (h : (c = .transmitterChoice ∧ s.lnk.sending = none) ∨ (c = .frameSent ∧ s.lnk.sending ≠ none)) :
    exec c s = .next (State.choose { s with lnk := { s.lnk with sending := none } }) := by
  rcases h with ⟨rfl, hidle⟩ | ⟨rfl, hsending⟩
  · have hself : { s with lnk := { s.lnk with sending := none } } = s := by rw [← hidle]
    rw [hself]
    simp only [exec, execTransmitterChoice, State.idleChoice, hidle, if_true]
  · simp only [exec, execFrameSent, if_neg hsending]

/-- Settles O22: with no reply or the run at 8, the notice picked is sent and removed. -/
theorem transmitterSendsTheFirstNotice : Obligations.TransmitterSendsTheFirstNotice := by
  intro c s hoccasion hnotices hreplies rank
  obtain ⟨before, n, after, hpick, hqueue, hbefore, hafter⟩ := pick_spec s.enu hnotices
  refine ⟨before, n, after, hqueue, hbefore, hafter, ?_⟩
  have hsend : State.choose { s with lnk := { s.lnk with sending := none } } =
      State.sendNotice n { s with lnk := { s.lnk with sending := none } } := by
    unfold State.choose
    simp only [hpick]
    rcases hreplies with hnone | hrun
    · rw [hnone]
    · cases hr : s.lnk.replies with
      | nil => rfl
      | cons r t => simp [hrun, Config.replyRunMax]
  rw [exec_choice hoccasion, hsend]
  simp only [State.sendNotice, hqueue, erase_pick hbefore]
  rfl

/-- Settles O23: with no notice or the run below 8, the oldest reply is sent. -/
theorem transmitterSendsTheOldestReply : Obligations.TransmitterSendsTheOldestReply := by
  intro c s hoccasion
  rw [exec_choice hoccasion]
  refine ⟨fun r q hreplies hturn => ?_, fun hreplies hnotices => ?_⟩
  · by_cases hnotices : s.enu.notices = []
    · simp [State.choose, hnotices, Enu.pick, hreplies, State.sendReply, replyFrame]
    · obtain ⟨before, n, after, hpick, -⟩ := pick_spec s.enu hnotices
      have hrun := hturn.resolve_left hnotices
      simp [State.choose, hnotices, hpick, hreplies, State.sendReply, replyFrame, Config.replyRunMax, hrun]
  · simp [State.choose, hnotices, Enu.pick, hreplies]

/-! ### Start-up (R115, R179, R192, R193) -/

theorem startUpClearEnd_sends {s : State} {p : Nat} (hphase : s.lnk.phase = .clearing)
    (hconfig : s.enu.config .startup = ⟨true, p, .notice⟩) (hnotices : s.enu.notices = []) (hreplies : s.lnk.replies = [])
    (hsending : s.lnk.sending = none) :
    exec .startUpClearEnd s = .next { s with lnk := { s.lnk with
      phase := .running, sending := some ⟨0x7F, 0, noticeBytes ⟨.startup s.clk.count, 1, s.clk.count⟩⟩, replyRun := 0 } } := by
  have hnote : s.run.note (.startup s.clk.count) =
      { s.run with enu := { s.enu with notices := [⟨.startup s.clk.count, 1, s.clk.count⟩] } } := by
    simp [State.note, State.run, Event.kind, Enu.notices?, hconfig, enterNotice, coalesceOrAppend, hnotices, ordinaryCount,
      Config.notices]
  have hraised : s.run.raise (.startup s.clk.count) =
      { s.run with enu := { s.enu with notices := [⟨.startup s.clk.count, 1, s.clk.count⟩] } } := by
    rw [State.raise, hnote]
    rfl
  rw [exec_startUpClearEnd hphase, hraised, State.idleChoice, if_pos (by simpa [State.run] using hsending)]
  simp only [State.choose, Enu.pick, State.run, hreplies, State.sendNotice, List.erase_cons_head, ← hnotices]
  rfl

/-- Every block at its power-on values, but for the count and the calendar's running and the frames received (R179, R192). -/
def AtPowerOn (s : State) : Prop :=
  s.ctb = State.reset.ctb ∧ s.rse = State.reset.rse ∧ s.rte = State.reset.rte ∧ s.sac = State.reset.sac ∧
  s.enu = State.reset.enu ∧
  s.clk = { Clk.powerOn with count := s.clk.count, weekday := s.clk.weekday, ds := s.clk.ds, midnightDue := s.clk.midnightDue } ∧
  s.lnk.handed = none ∧ s.lnk.replies = [] ∧ s.lnk.sending = none ∧ s.lnk.replyRun = 0

theorem clearKept_iff {s : State} : s.clearKept ↔ (s.lnk.phase ≠ .running → AtPowerOn s) := Iff.rfl

/-- During the start-up clear an event that triggers nothing leaves no trace (R179). -/
theorem raise_clearing {s : State} (hphase : s.lnk.phase = .clearing) {e : Event} (he : e.kind.triggerCapable = false) :
    s.raise e = s := by
  have hnote : s.note e = s := if_neg fun h => h.1 hphase
  rw [State.raise, hnote, State.handToSlots, Enu.triggers?, he]
  rfl

/-- Only frames received, and their tallies. -/
def Receives (s t : State) : Prop :=
  ∃ rx inbound a b c, t = { s with lnk := { s.lnk with rx, inbound, badCheck := a, malformed := b, overruns := c } }

theorem Receives.refl (s : State) : Receives s s := ⟨_, _, _, _, _, rfl⟩

theorem Receives.trans {s t u : State} (h : Receives s t) (h' : Receives t u) : Receives s u := by
  obtain ⟨_, _, _, _, _, rfl⟩ := h
  obtain ⟨_, _, _, _, _, rfl⟩ := h'
  exact ⟨_, _, _, _, _, rfl⟩

theorem Receives.phase {s t : State} (h : Receives s t) : t.lnk.phase = s.lnk.phase := by
  obtain ⟨_, _, _, _, _, rfl⟩ := h
  rfl

theorem Receives.atPowerOn {s t : State} (h : Receives s t) (hs : AtPowerOn s) : AtPowerOn t := by
  obtain ⟨_, _, _, _, _, rfl⟩ := h
  exact hs

theorem setRx_receives (s : State) (r : Receiver) : Receives s (s.setRx r) :=
  ⟨r, s.lnk.inbound, s.lnk.badCheck, s.lnk.malformed, s.lnk.overruns, rfl⟩

section Clearing
variable {s : State} (hphase : s.lnk.phase = .clearing)
include hphase

theorem discard_receives (c : LinkCause) : Receives s (s.discard c) := by
  have hraise : ∀ l : Lnk, l.phase = .clearing → State.raise (.linkTrouble c) { s with lnk := l } = { s with lnk := l } :=
    fun l hl => raise_clearing hl rfl
  cases c
  all_goals
    refine (congrArg (Receives s) (hraise _ ?_)).mpr ⟨_, _, _, _, _, rfl⟩
    exact hphase

theorem judgeFrame_receives (r : Receiver) : Receives s (s.judgeFrame r) := by
  unfold State.judgeFrame
  split
  · exact discard_receives hphase _
  · split_ifs
    · exact discard_receives hphase _
    · exact ⟨_, _, _, _, _, rfl⟩

theorem delimiter_receives : Receives s s.delimiter := by
  have hbegun := setRx_receives s Receiver.begun
  unfold State.delimiter
  dsimp only
  split_ifs
  · exact hbegun
  · exact hbegun.trans (judgeFrame_receives (s := s.setRx Receiver.begun) hphase _)

theorem receive_receives (b : Byte) : Receives s (s.receive b) := by
  unfold State.receive
  split_ifs
  · exact delimiter_receives hphase
  · exact setRx_receives s _

theorem frameComplete_receives (wire : List Byte) : Receives s (wire.foldl State.receive s).delimiter := by
  have hfold : Receives s (wire.foldl State.receive s) :=
    List.foldlRecOn (motive := Receives s) wire _ (Receives.refl s) fun t ht b _ =>
      ht.trans (receive_receives (ht.phase.trans hphase) b)
  exact hfold.trans (delimiter_receives (hfold.phase.trans hphase))

end Clearing

/-- The calendar runs on from the power-on value without a set clock or an override (R104 to R106). -/
theorem advance_powerOn {c : Clk}
    (h : c = { Clk.powerOn with count := c.count, weekday := c.weekday, ds := c.ds, midnightDue := c.midnightDue }) :
    c.rollOver = { Clk.powerOn with
      count := c.rollOver.count, weekday := c.rollOver.weekday, ds := c.rollOver.ds, midnightDue := c.rollOver.midnightDue } ∧
    c.advance = { Clk.powerOn with
      count := c.advance.count, weekday := c.advance.weekday, ds := c.advance.ds, midnightDue := c.advance.midnightDue } := by
  rw [h]
  refine ⟨rfl, ?_⟩
  unfold Clk.advance
  dsimp only
  split_ifs <;> rfl

theorem reset_atPowerOn (phase : Phase) (q : List Instr) :
    AtPowerOn { State.reset with lnk := Lnk.powerOn phase, pending := q } :=
  ⟨rfl, rfl, rfl, rfl, rfl, rfl, rfl, rfl, rfl, rfl⟩

/-- A part that runs goes on running until a reset. -/
theorem exec_running {c : Instr} {s t : State} (hs : s.lnk.phase = .running) (h : exec c s = .next t) :
    t.lnk.phase = .running ∨ AtPowerOn t := by
  by_cases hframe : ∃ wire, c = .frameComplete wire
  · obtain ⟨wire, rfl⟩ := hframe
    exact .inl ((frameComplete_link h).2.trans hs)
  by_cases hstart : c = .startUpClearEnd
  · subst hstart
    exact .inl ((startUpClearEnd_link h).2.elim (·.trans hs) id)
  by_cases hreset : c = .powerOnReset ∨ c = .resetInputAsserted
  · rcases hreset with rfl | rfl <;> cases h
    · exact .inr (reset_atPowerOn .clearing _)
    · exact .inr (reset_atPowerOn .inReset _)
  · exact .inl ((exec_sameReception h (not_exists.1 hframe) hstart (not_or.1 hreset).1 (not_or.1 hreset).2).2.trans hs)

/-- Before the clear's end nothing has its occasion but the clock and the receiver. -/
theorem exec_atPowerOn {c : Instr} {s t : State} (hphase : s.lnk.phase ≠ .running) (hs : AtPowerOn s) (h : exec c s = .next t) :
    t.lnk.phase = .running ∨ AtPowerOn t := by
  obtain ⟨hctb, hrse, hrte, hsac, henu, hclk, hhanded, hreplies, hsending, hrun⟩ := id hs
  -- A command without its occasion changes nothing.
  have habsent : exec c s = .next s → t.lnk.phase = .running ∨ AtPowerOn t := fun hsame => by
    cases hsame.symm.trans h
    exact .inr hs
  have hgroups : ∀ g, s.group? g = none := fun g => by simp [State.group?, hctb, State.reset, tget]
  have hcircuits : ∀ g m, s.circuit? g m = none := fun g m => by simp [State.circuit?, hgroups]
  have hsweep : s.rse.sweep = none := by rw [hrse]; rfl
  cases hk : requestCode c with
  | some k =>
    exact habsent (exec_untaken (by rw [hk]; rfl) (takes?_eq_none (.inr ⟨hhanded, .inl hphase⟩)))
  | none =>
    cases c
    case sweepContextVisit => exact habsent (sweepContextVisit_absent (.inl hsweep))
    case sweepCompletion => exact habsent (sweepCompletion_absent (.inl hsweep))
    case guardTimerExpiry g m => exact habsent (guardTimerExpiry_absent (by simp [hcircuits]))
    case seizeTimerExpiry g m => exact habsent (seizeTimerExpiry_absent (by simp [hcircuits]))
    case sampleTimerExpiry g => exact habsent (sampleTimerExpiry_absent (by simp [hgroups]))
    case markExpiry i => exact habsent (markExpiry_absent (by simp [State.dest?, hrse, State.reset, tget]))
    case takeFrame => exact habsent (takeFrame_absent (.inr (.inl hphase)))
    case frameSent => exact habsent (by simp [exec, execFrameSent, hsending])
    case transmitterChoice =>
      refine habsent ?_
      have hnotices : s.enu.notices = [] := by rw [henu]; rfl
      simp [exec, execTransmitterChoice, State.idleChoice, State.choose, hnotices, Enu.pick, hreplies]
    case midnightRollover =>
      cases h
      split_ifs
      · exact .inr ⟨hctb, hrse, hrte, hsac, henu, (advance_powerOn hclk).1, hhanded, hreplies, hsending, hrun⟩
      · exact .inr hs
    case endOfDecisecond =>
      have htick : AtPowerOn s.tick :=
        ⟨by simp [State.tick, hctb, State.reset, tmap], by simp [State.tick, hrse, State.reset, tmap], hrte, hsac, henu,
          (advance_powerOn hclk).2, hhanded, hreplies, hsending, hrun⟩
      cases h
      split
      · exact .inr hs
      · exact .inr htick
      · exact .inr htick
    case frameComplete wire =>
      cases h
      split
      · exact .inr hs
      · exact .inr ((frameComplete_receives ‹_› wire).atPowerOn hs)
      · exact absurd ‹_› hphase
    case startUpClearEnd =>
      by_cases hclearing : s.lnk.phase = .clearing
      · rw [exec_startUpClearEnd hclearing] at h
        cases h
        left
        rw [(idleChoice_sameReception _).2, raise_lnk]
        rfl
      · exact habsent (startUpClearEnd_absent hclearing)
    case powerOnReset =>
      cases h
      exact .inr (reset_atPowerOn .clearing _)
    case resetInputAsserted =>
      cases h
      exact .inr (reset_atPowerOn .inReset _)
    all_goals cases hk

theorem step_clearKept {s t : State} (hs : s.clearKept) (h : step s = .next t) : t.clearKept := by
  unfold step at h
  split at h
  · cases h
    exact hs
  · rename_i c q _
    have hend : t.lnk.phase = .running ∨ AtPowerOn t := by
      by_cases hphase : s.lnk.phase = .running
      · exact exec_running (s := s.withPending q) hphase h
      · exact exec_atPowerOn (s := s.withPending q) hphase (hs hphase) h
    exact fun hne => hend.resolve_left hne

/-- Settles O24: before the clear's end no command but the clock's and the receiver's has its occasion. -/
theorem resetAndStartUp : Obligations.ResetAndStartUp :=
  ⟨fun _ => ⟨rfl, rfl⟩, fun _ _ hphase hconfig hnotices hreplies hsending =>
    startUpClearEnd_sends hphase hconfig hnotices hreplies hsending, fun _ _ => step_clearKept⟩

end Sys2Proof.Proofs.Link


/-! ## Requests: what a request that is taken leaves, and the events an operation raises -/

namespace Sys2Proof.Proofs.Requests

open Sys2Proof.Machine Sys2Proof.Proofs.ChargeRecords Sys2Proof.Proofs.Circuits Sys2Proof.Proofs.TrunkGroups

/-! ### Operations that only raise events -/

theorem onlyEvents_refl (s : State) : OnlyEvents s s := onlyEvents_iff.2 ⟨EventOnly.refl s, fun _ => rfl⟩

theorem onlyEvents_trans {s t u : State} (h : OnlyEvents s t) (h' : OnlyEvents t u) : OnlyEvents s u := by
  obtain ⟨honly, hslots⟩ := onlyEvents_iff.1 h
  obtain ⟨honly', hslots'⟩ := onlyEvents_iff.1 h'
  exact onlyEvents_iff.2 ⟨honly.trans honly', fun i => by rw [hslots' i, hslots i]⟩

/-- An operation that raises events and does nothing else: it writes the notices and the slots, by what an event reads (R173). -/
structure Raises (f : State → State) : Prop where
  only : ∀ s, OnlyEvents s (f s)
  inputs : ∀ s t, EventInputs s t → EventInputs (f s) (f t)

namespace Raises

theorem none : Raises fun s => s := ⟨onlyEvents_refl, fun _ _ h => h⟩

theorem event (e : Event) : Raises (State.raise e) := ⟨fun s => raise_onlyEvents s e, fun _ _ h => raise_inputs h e⟩

theorem after {f f' : State → State} (h' : Raises f') (h : Raises f) : Raises fun s => f' (f s) :=
  ⟨fun s => onlyEvents_trans (h.only s) (h'.only _), fun s t hst => h'.inputs _ _ (h.inputs s t hst)⟩

theorem ifElse {p : Prop} [Decidable p] {f f' : State → State} (h : Raises f) (h' : Raises f') :
    Raises fun s => if p then f s else f' s := by
  by_cases hp : p
  · simpa only [if_pos hp] using h
  · simpa only [if_neg hp] using h'

theorem blockedEvents (g : Nat) (r : Group) : Raises (Circuits.blockedEvents g r) :=
  (event _).after (.ifElse .none (event _))

theorem drainEvents (g : Nat) (r : Group) : Raises (State.drainEvents g r) :=
  .ifElse (blockedEvents g r) .none

theorem standingEvents (i : Fin 63) (old new : Standing) : Raises (State.standingEvents i old new) := .ifElse .none (event _)

theorem latchEvents (old new : Bool) : Raises (State.latchEvents old new) := .ifElse .none (event _)

theorem overflowEvents (g : Nat) (r : Group) : Raises (State.overflowEvents g r) := .ifElse .none (event _)

variable {f : State → State} (h : Raises f)
include h

/-- What is written is decided by what an event reads. -/
theorem eq_of_inputs {s t : State} (hst : EventInputs s t) :
    f t = { t with rse := { t.rse with slots := (f s).rse.slots }, enu := (f s).enu } := by
  have hsame := h.inputs s t hst
  obtain ⟨slots, notices, -, ht⟩ := h.only t
  rw [← hsame.enu, ← hsame.slots, ht]

theorem sameEvents {s t : State} (hst : EventInputs s t) : SameEvents (f s) (f t) :=
  ⟨(h.inputs s t hst).enu, (h.inputs s t hst).slots⟩

/-- Raising events and writing a group's record may be done in either order. -/
theorem setGroup (s : State) (g : Nat) (r : Group) : f (s.setGroup g r) = (f s).setGroup g r :=
  (h.eq_of_inputs (s := s) (t := s.setGroup g r) ⟨rfl, rfl, rfl, rfl⟩).trans
    (congrArg (State.setGroup g r) (h.eq_of_inputs (s := s) (t := s) ⟨rfl, rfl, rfl, rfl⟩)).symm

section Fields
variable (s : State)

theorem lnk : (f s).lnk = s.lnk := by obtain ⟨_, _, _, hs⟩ := h.only s; rw [hs]

theorem ctb : (f s).ctb = s.ctb := by obtain ⟨_, _, _, hs⟩ := h.only s; rw [hs]

theorem clk : (f s).clk = s.clk := by obtain ⟨_, _, _, hs⟩ := h.only s; rw [hs]

theorem rte : (f s).rte = s.rte := by obtain ⟨_, _, _, hs⟩ := h.only s; rw [hs]

theorem sac : (f s).sac = s.sac := by obtain ⟨_, _, _, hs⟩ := h.only s; rw [hs]

theorem pending : (f s).pending = s.pending := by obtain ⟨_, _, _, hs⟩ := h.only s; rw [hs]

theorem contexts : (f s).rse.contexts = s.rse.contexts := by obtain ⟨_, _, _, hs⟩ := h.only s; rw [hs]

theorem dests : (f s).rse.dests = s.rse.dests := by obtain ⟨_, _, _, hs⟩ := h.only s; rw [hs]

theorem lists : (f s).rse.lists = s.rse.lists := by obtain ⟨_, _, _, hs⟩ := h.only s; rw [hs]

theorem sweep : (f s).rse.sweep = s.rse.sweep := by obtain ⟨_, _, _, hs⟩ := h.only s; rw [hs]

theorem group? (g : Nat) : (f s).group? g = s.group? g := group?_congr (h.ctb s) g

end Fields

end Raises

/-! ### A request that is taken -/

section Taken
variable {s u : State} {c : Instr} {h : Handed} {k : Byte} {a : Answer}

/-- A request that is taken comes to its block's act on the state with the request handed on, and its reply. -/
theorem serve_act (ht : Taken s c h) {act : Count → State → Answer × State} (b : Bool)
    (hact : act h.arrival (s.withHanded h) = (a, u)) : s.serve c k b act = u.place k h.tag a := by
  rw [serve_taken ht, hact]

/-- A request that changes nothing but its reply. -/
theorem serve_unchanged (ht : Taken s c h) {act : Count → State → Answer × State} (b : Bool)
    (hact : act h.arrival (s.withHanded h) = (a, s.withHanded h)) :
    s.serve c k b act = { s with lnk := s.lnk.answered k h.tag a } := serve_act (u := s.withHanded h) ht b hact

theorem place_answered (hu : u.lnk = (s.withHanded h).lnk) (tag : BitVec 16) :
    (u.place k tag a).lnk = s.lnk.answered k tag a := by
  rw [State.place, hu]
  rfl

end Taken

end Sys2Proof.Proofs.Requests


namespace Sys2Proof.Proofs.Requests

open Sys2Proof.Machine Sys2Proof.Proofs.ChargeRecords Sys2Proof.Proofs.Circuits Sys2Proof.Proofs.TrunkGroups
open Sys2Proof.Proofs.Invariants (overlapsOther_eq_false)

/-! ### GROUP_DEFINE (R1 to R5) -/

section GroupDefine
variable {s : State} {f : GroupFields} {dir : Direction} {hunt : HuntOrder}

/-- Fields in their ranges pass every check of R1. -/
theorem badGroupFields_eq_none (hgroup : f.group ≤ 255) (hfirst : f.first ≤ 16383) (hsize : f.size ≤ 1024)
    (hdir : decodeDirection f.direction = some dir) (hcarrier : f.carrier ≤ 63) (hband : f.inboundBand ≤ 7)
    (hhunt : decodeHuntOrder f.huntOrder = some hunt) (hkeys : dir = .both → f.localKey ≠ f.farKey) :
    badGroupFields f = none := by
  have hdistinct : ¬ (dir = .both ∧ f.localKey = f.farKey) := fun ⟨hboth, hequal⟩ => hkeys hboth hequal
  simp [badGroupFields, firstBad, hdir, hhunt, hdistinct, Config.maxSize, Nat.not_lt.2 hgroup, Nat.not_lt.2 hfirst,
    Nat.not_lt.2 hsize, Nat.not_lt.2 hcarrier, Nat.not_lt.2 hband]

variable (hgood : badGroupFields f = none)
include hgood

theorem groupDefine_makes (hpos : 0 < f.size) (hrun : f.first + f.size ≤ 16384)
    (hblocked : ∀ r, s.group? f.group = some r → r.state = .blocked)
    (hapart : ∀ x ∈ s.ctb.groups, x.1 ≠ f.group → runsOverlap f.first f.size x.2.first x.2.size = false) :
    groupDefine f s = (.accepted .plain, s.setGroup f.group (newGroup f)) := by
  have hfree : (s.group? f.group).any (fun r => r.state != .blocked) = false := by
    cases hr : s.group? f.group with
    | none => rfl
    | some r => simp [hblocked r hr]
  have hover : overlapsOther f.group f.first f.size s.ctb.groups = false := by
    refine List.any_eq_false.2 fun x hx => ?_
    by_cases hne : x.1 = f.group
    · simp [hne]
    · simp [hapart x hx hne]
  simp [groupDefine, hgood, hpos.ne', Config.circuits, Nat.not_lt.2 hrun, hfree, hover]

theorem groupDefine_deletes {r : Group} (hsize : f.size = 0) (hr : s.group? f.group = some r) (hblocked : r.state = .blocked) :
    groupDefine f s = (.accepted .plain, s.deleteGroup f.group) := by
  simp [groupDefine, hgood, hsize, hr, hblocked]

theorem groupDefine_undefined (hsize : f.size = 0) (hr : s.group? f.group = none) : groupDefine f s = (badField 2, s) := by
  simp [groupDefine, hgood, hsize, hr]

theorem groupDefine_busy {r : Group} (hrun : f.first + f.size ≤ 16384) (hr : s.group? f.group = some r)
    (hstate : r.state ≠ .blocked) : groupDefine f s = (.denied .groupBusy, s) := by
  by_cases hsize : f.size = 0
  · simp [groupDefine, hgood, hsize, hr, hstate]
  · simp [groupDefine, hgood, hsize, Config.circuits, Nat.not_lt.2 hrun, hr, hstate]

end GroupDefine

theorem deleteGroup_group?_same (s : State) (g : Nat) : (s.deleteGroup g).group? g = none := by
  simp [State.group?, State.deleteGroup]

theorem deleteGroup_group?_other (s : State) {g k : Nat} (h : k ≠ g) : (s.deleteGroup g).group? k = s.group? k := by
  simp [State.group?, State.deleteGroup, tget_tdel_other _ _ _ h]

/-- The record a GROUP_DEFINE makes, field by field (R1, R3, R4). -/
theorem newGroup_eq {f : GroupFields} {dir : Direction} {hunt : HuntOrder} (hdir : decodeDirection f.direction = some dir)
    (hhunt : decodeHuntOrder f.huntOrder = some hunt) : newGroup f =
      { first := f.first, direction := dir, carrier := f.carrier, inboundBand := f.inboundBand, huntOrder := hunt
        localKey := f.localKey, farKey := f.farKey, reservation := min f.reservation f.size
        loadThreshold := max 1 (min f.loadThreshold f.size), sampleInterval := max 10 (min f.sampleInterval 600)
        guardTime := min f.guardTime 50, seizeTimeout := max 20 (min f.seizeTimeout 600), state := .blocked, rotate := 0
        tallies := ⟨0, 0, 0, 0, 0, 0⟩, members := List.replicate f.size ⟨.idle, false, false, none, none, none⟩, score := 0
        sampleTimer := none } := by
  simp only [newGroup, hdir, hhunt, Option.getD_some, clamp, Nat.zero_max]
  rfl

/-- Settles O41, by the size asked for and the group's state. -/
theorem groupDefineMakesTheGroup : Obligations.GroupDefineMakesTheGroup := by
  intro s h f dir hunt ht hgroup hfirst hsize hdir hcarrier hband hhunt hkeys
  have hgood := badGroupFields_eq_none hgroup hfirst hsize hdir hcarrier hband hhunt hkeys
  have hexec : exec (.groupDefine f) s = .next (s.serve (.groupDefine f) 0x10 false fun _ => groupDefine f) := rfl
  rw [hexec]
  refine ⟨fun hpos hrun hblocked hapart => ?_, fun r hzero hr hblocked => ?_, fun hzero hr => ?_, fun r hrun hr hstate => ?_⟩
  · have hact := groupDefine_makes (s := s.withHanded h) hgood hpos hrun hblocked hapart
    refine ⟨_, rfl, ?_⟩
    rw [serve_act ht false hact, newGroup_eq hdir hhunt]
    exact ⟨rfl, setGroup_group?_same (s.withHanded h) _ _ (Nat.lt_succ_of_le hgroup),
      fun k hk => setGroup_group?_other (s.withHanded h) _ _ _ hk, rfl, rfl, rfl, rfl, rfl, rfl⟩
  · have hact := groupDefine_deletes (s := s.withHanded h) hgood hzero hr hblocked
    refine ⟨_, rfl, ?_⟩
    rw [serve_act ht false hact]
    exact ⟨rfl, deleteGroup_group?_same (s.withHanded h) _, fun k hk => deleteGroup_group?_other (s.withHanded h) hk,
      rfl, rfl, rfl, rfl, rfl, rfl⟩
  · rw [serve_unchanged ht false (groupDefine_undefined (s := s.withHanded h) hgood hzero hr)]
    rfl
  · rw [serve_unchanged ht false (groupDefine_busy (s := s.withHanded h) hgood hrun hr hstate)]

/-! ### GROUP_BLOCK and GROUP_UNBLOCK (R20 to R22) -/

section GroupBlock
variable {s : State} {g : Nat} {r : Group} (hr : s.group? g = some r)
include hr

theorem groupBlock_idle (hstate : r.state = .inService) (hbusy : r.busy = 0) :
    groupBlock g s = (.accepted .plain,
      (blockedEvents g r s).setGroup g { r with state := .blocked, score := 0, sampleTimer := none }) := by
  rw [← (Raises.blockedEvents g r).setGroup, ← enterBlocked_eq hr]
  simp [groupBlock, hr, hstate, hbusy]

theorem groupBlock_busy (hstate : r.state = .inService) (hbusy : 0 < r.busy) :
    groupBlock g s = (.accepted .plain, s.setGroup g { r with state := .draining }) := by
  simp [groupBlock, hr, hstate, hbusy.ne']

theorem groupBlock_done (hstate : r.state ≠ .inService) : groupBlock g s = (.accepted .plain, s) := by
  unfold groupBlock
  rw [hr]
  cases hs : r.state <;> simp_all

theorem groupUnblock_returns (hstate : r.state ≠ .inService) :
    groupUnblock g s = (.accepted .plain, s.setGroup g { r with state := .inService, sampleTimer := some r.sampleInterval }) := by
  unfold groupUnblock
  rw [hr]
  cases hs : r.state <;> simp_all [Group.unblocked]

theorem groupUnblock_done (hstate : r.state = .inService) : groupUnblock g s = (.accepted .plain, s) := by
  simp [groupUnblock, hr, hstate]

end GroupBlock

/-- Settles O42, by the group's state and its busy circuits. -/
theorem groupBlockAndUnblock : Obligations.GroupBlockAndUnblock := by
  intro s h g r hr
  have hr' : (s.withHanded h).group? g = some r := hr
  have hg := lt_of_group? hr
  have hblock : exec (.groupBlock g) s = .next (s.serve (.groupBlock g) 0x11 false fun _ => groupBlock g) := rfl
  have hunblock : exec (.groupUnblock g) s = .next (s.serve (.groupUnblock g) 0x12 false fun _ => groupUnblock g) := rfl
  rw [hblock, hunblock]
  refine ⟨fun ht => ⟨fun hstate hbusy => ?_, fun hstate hbusy => ?_, fun hstate => ?_⟩,
    fun ht => ⟨fun hstate => ?_, fun hstate => ?_⟩⟩
  · have hevents := Raises.blockedEvents g r
    refine ⟨_, rfl, ?_⟩
    rw [serve_act ht false (groupBlock_idle hr' hstate hbusy)]
    exact ⟨place_answered (hevents.lnk _) h.tag, setGroup_group?_same _ g _ hg,
      fun k hk => (setGroup_group?_other _ g k _ hk).trans (hevents.group? _ k),
      hevents.sameEvents (s := s) (t := s.withHanded h) ⟨rfl, rfl, rfl, rfl⟩, hevents.contexts _, hevents.dests _, hevents.lists _,
      hevents.sweep _, hevents.clk _, hevents.rte _, hevents.sac _, hevents.pending _⟩
  · refine ⟨_, rfl, ?_⟩
    rw [serve_act ht false (groupBlock_busy hr' hstate hbusy)]
    exact ⟨rfl, setGroup_group?_same _ g _ hg, fun k hk => setGroup_group?_other (s.withHanded h) g k _ hk,
      rfl, rfl, rfl, rfl, rfl, rfl⟩
  · rw [serve_unchanged ht false (groupBlock_done hr' hstate)]
  · refine ⟨_, rfl, ?_⟩
    rw [serve_act ht false (groupUnblock_returns hr' hstate)]
    exact ⟨rfl, setGroup_group?_same _ g _ hg, fun k hk => setGroup_group?_other (s.withHanded h) g k _ hk,
      rfl, rfl, rfl, rfl, rfl, rfl⟩
  · rw [serve_unchanged ht false (groupUnblock_done hr' hstate)]

end Sys2Proof.Proofs.Requests


namespace Sys2Proof.Proofs.Requests

open Sys2Proof Sys2Proof.Machine Sys2Proof.Proofs.ChargeRecords Sys2Proof.Proofs.Steps

/-! ### The lowest free number -/

theorem lowestFree_eq_none {α : Type} {t : Table α} {fuel i : Nat} (h : ∀ j, i ≤ j → j < i + fuel → tget t j ≠ none) :
    lowestFree t fuel i = none := by
  induction fuel generalizing i with
  | zero => rfl
  | succ n ih =>
    obtain ⟨x, hx⟩ := Option.ne_none_iff_exists'.1 (h i le_rfl (by omega))
    simp only [lowestFree, hx, Option.isNone_some, Bool.false_eq_true, if_false]
    exact ih fun j hj hlt => h j (by omega) (by omega)

theorem lowestFree_eq_some {α : Type} {t : Table α} {fuel m : Nat} (hm : m < fuel) (hfree : tget t m = none)
    (hlower : ∀ j, j < m → tget t j ≠ none) : lowestFree t fuel 0 = some m := by
  cases hfound : lowestFree t fuel 0 with
  | none =>
    have hnone : ∀ {fuel i : Nat}, i ≤ m → m < i + fuel → lowestFree t fuel i ≠ none := by
      intro fuel
      induction fuel with
      | zero => intro i _ _; omega
      | succ n ih =>
        intro i hi hlt
        by_cases heq : i = m
        · simp [lowestFree, heq, hfree]
        · unfold lowestFree
          split_ifs
          · simp
          · exact ih (by omega) (by omega)
    exact absurd hfound (hnone (Nat.zero_le m) (by omega))
  | some k =>
    obtain ⟨hk, -, -, hbelow⟩ := lowestFree_spec t fuel 0 hfound
    have hle : ¬ m < k := fun hlt => hbelow m (Nat.zero_le m) hlt hfree
    have hge : ¬ k < m := fun hlt => hlower k hlt hk
    rw [show k = m by omega]

/-! ### DEST_SET, DEST_CLEAR, LIST_SET and FAR_MARK -/

section Dests
variable {s : State} {ds : List Nat} {i : Nat} {d : Dest}

/-- The entry of a run of digits is found, where no two entries share one (R50). -/
theorem exactDest_eq_some {t : Table Dest} (hdistinct : ∀ a ∈ t, ∀ b ∈ t, a.2.digits = b.2.digits → a.1 = b.1)
    (hd : tget t i = some d) (hdigits : d.digits = ds) : exactDest ds t = some (i, d) := by
  induction t with
  | nil => cases hd
  | cons e t ih =>
    obtain ⟨j, b⟩ := e
    by_cases hj : j = i
    · simp only [tget, hj, if_true, Option.some.injEq] at hd
      simp [exactDest, hd, hdigits, hj]
    · simp only [tget, hj, if_false] at hd
      have hother : b.digits ≠ ds := fun hb =>
        hj (hdistinct (j, b) List.mem_cons_self (i, d) (List.mem_cons_of_mem _ (mem_of_tget hd)) (hb.trans hdigits.symm))
      simp only [exactDest, hother, if_false]
      exact ih (fun a ha b hb => hdistinct a (List.mem_cons_of_mem _ ha) b (List.mem_cons_of_mem _ hb)) hd

theorem exactDest_eq_none {t : Table Dest} (h : ∀ e ∈ t, e.2.digits ≠ ds) : exactDest ds t = none := by
  induction t with
  | nil => rfl
  | cons e t ih =>
    simp only [exactDest, h e List.mem_cons_self, if_false]
    exact ih fun x hx => h x (List.mem_cons_of_mem _ hx)

theorem setDest_dest?_same (s : State) (i : Nat) (d : Dest) : (s.setDest i d).dest? i = some d := by
  simp [State.dest?]

theorem setDest_otherDests (s : State) (i : Nat) (d : Dest) : OtherDests i s (s.setDest i d) := fun k hk => by
  simp [State.dest?, tget_tput_other _ _ _ _ hk]

theorem clearDest_dest?_same (s : State) (i : Nat) : (s.clearDest i).dest? i = none := by simp [State.dest?]

theorem clearDest_otherDests (s : State) (i : Nat) : OtherDests i s (s.clearDest i) := fun k hk => by
  simp [State.dest?, tget_tdel_other _ _ _ hk]

variable {digits : DigitField} {list : Nat} (hread : readDigits 16 digits = some ds)
include hread

theorem destSet_replaces (hlist : list ≤ 1023) (hfound : exactDest ds s.rse.dests = some (i, d)) :
    destSet digits list s = (.accepted (.dest i), s.setDest i { d with list }) := by
  simp [destSet, hread, Nat.not_lt.2 hlist, hfound]

theorem destSet_adds (hlist : list ≤ 1023) (hnone : exactDest ds s.rse.dests = none)
    (hfree : lowestFree s.rse.dests Config.dests 0 = some i) :
    destSet digits list s = (.accepted (.dest i), s.setDest i ⟨ds, list, 0, none, 0⟩) := by
  simp [destSet, hread, Nat.not_lt.2 hlist, hnone, hfree]

theorem destSet_full (hlist : list ≤ 1023) (hnone : exactDest ds s.rse.dests = none)
    (hfull : lowestFree s.rse.dests Config.dests 0 = none) : destSet digits list s = (.denied .tableFull, s) := by
  simp [destSet, hread, Nat.not_lt.2 hlist, hnone, hfull]

theorem destClear_removes (hfound : exactDest ds s.rse.dests = some (i, d)) :
    destClear digits s = (.accepted (.dest i), s.clearDest i) := by
  simp [destClear, hread, hfound]

theorem destClear_misses (hnone : exactDest ds s.rse.dests = none) : destClear digits s = (.selection none .noRoute, s) := by
  simp [destClear, hread, hnone]

theorem farMark_marks {level duration : Nat} (hlevel : level ≤ 2) (hfound : exactDest ds s.rse.dests = some (i, d)) :
    farMark digits level duration s = (.accepted (.marked i d.mark), s.setDest i (d.marked level duration)) := by
  simp [farMark, hread, Nat.not_lt.2 hlevel, hfound]

end Dests

/-- Settles O45, by whether an entry holds the digits. -/
theorem destSetAndClear : Obligations.DestSetAndClear := by
  refine ⟨fun s t => Invariants.step_prefixesDistinct, fun s h digits list ds hread => ⟨fun ht hlist => ?_, fun ht => ?_⟩⟩
  · have hexec : exec (.destSet digits list) s = .next (s.serve (.destSet digits list) 0x18 false fun _ => destSet digits list) := rfl
    rw [hexec]
    refine ⟨fun i d hd hdigits hdistinct => ?_, fun i hnew hi hfree hlower => ?_, fun hnew hfull => ?_⟩
    · have hact := destSet_replaces (s := s.withHanded h) hread hlist (exactDest_eq_some hdistinct hd hdigits)
      refine ⟨_, rfl, ?_⟩
      rw [serve_act ht false hact]
      exact ⟨rfl, setDest_dest?_same _ i _, setDest_otherDests (s.withHanded h) i _, rfl, rfl, rfl, ⟨rfl, rfl, rfl⟩, rfl, rfl, rfl, rfl⟩
    · have hact := destSet_adds (s := s.withHanded h) hread hlist (exactDest_eq_none hnew) (lowestFree_eq_some hi hfree hlower)
      refine ⟨_, rfl, ?_⟩
      rw [serve_act ht false hact]
      exact ⟨rfl, setDest_dest?_same _ i _, setDest_otherDests (s.withHanded h) i _, rfl, rfl, rfl, ⟨rfl, rfl, rfl⟩, rfl, rfl, rfl, rfl⟩
    · have hnone := lowestFree_eq_none (t := s.rse.dests) (fuel := 4096) (i := 0) fun j _ hj => hfull j (by omega)
      rw [serve_unchanged ht false (destSet_full (s := s.withHanded h) hread hlist (exactDest_eq_none hnew) hnone)]
  · have hexec : exec (.destClear digits) s = .next (s.serve (.destClear digits) 0x19 false fun _ => destClear digits) := rfl
    rw [hexec]
    refine ⟨fun i d hd hdigits hdistinct => ?_, fun hnew => ?_⟩
    · refine ⟨_, rfl, ?_⟩
      rw [serve_act ht false (destClear_removes (s := s.withHanded h) hread (exactDest_eq_some hdistinct hd hdigits))]
      exact ⟨rfl, clearDest_dest?_same _ i, clearDest_otherDests (s.withHanded h) i, rfl, rfl, rfl, ⟨rfl, rfl, rfl⟩, rfl, rfl, rfl, rfl⟩
    · rw [serve_unchanged ht false (destClear_misses (s := s.withHanded h) hread (exactDest_eq_none hnew))]

theorem badRouteEntry_eq_none {es : List (Nat × Nat)} (h : ∀ e ∈ es, e.1 ≤ 255 ∧ e.2 ≤ 7) (i : Nat) :
    badRouteEntry i es = none := by
  induction es generalizing i with
  | nil => rfl
  | cons e t ih =>
    obtain ⟨hgroup, hband⟩ := h e List.mem_cons_self
    simp only [badRouteEntry, Nat.not_lt.2 hgroup, Nat.not_lt.2 hband, if_false]
    exact ih (fun x hx => h x (List.mem_cons_of_mem _ hx)) _

theorem listSet_replaces {s : State} {list : Nat} {entries : List (Nat × Nat)} (hlist : list ≤ 1023) (hlow : 1 ≤ entries.length)
    (hhigh : entries.length ≤ 8) (hentries : ∀ e ∈ entries, e.1 ≤ 255 ∧ e.2 ≤ 7) :
    listSet list entries s = (.accepted .plain,
      { s with rse := { s.rse with lists := tput s.rse.lists list (entries.map fun e => ⟨e.1, e.2⟩) } }) := by
  have hcount : ¬ (entries.length = 0 ∨ 8 < entries.length) := by omega
  simp only [listSet, firstBad, Nat.not_lt.2 hlist, hcount, decide_false, Bool.false_eq_true, if_false,
    badRouteEntry_eq_none hentries]

/-- Settles O46: the checks pass, and one list or one entry is written. -/
theorem listSetAndFarMark : Obligations.ListSetAndFarMark := by
  refine ⟨fun s h list entries ht hlist hlow hhigh hentries => ⟨_, rfl, ?_⟩,
    fun s h digits level duration i ds d ht hread hlevel hd hdigits hdistinct => ⟨_, rfl, ?_⟩⟩
  · rw [serve_act ht false (listSet_replaces (s := s.withHanded h) hlist hlow hhigh hentries)]
    refine ⟨rfl, ?_, fun k hk => ?_, rfl, rfl, rfl, rfl, rfl, rfl, rfl, rfl, rfl, rfl⟩
    · simp [State.list, State.place]
    · simp [State.list, State.place, tget_tput_other _ _ _ _ hk]
  · rw [serve_act ht false (farMark_marks (s := s.withHanded h) hread hlevel (exactDest_eq_some hdistinct hd hdigits))]
    refine ⟨rfl, ?_, setDest_otherDests (s.withHanded h) i _, rfl, rfl, rfl, ⟨rfl, rfl, rfl⟩, rfl, rfl, rfl, rfl⟩
    exact (setDest_dest?_same (s.withHanded h) i _).trans rfl

/-! ### CALENDAR_SET, WEEK_SET and TIME_SET -/

theorem badBoundary_eq_none {bs : List (Nat × Nat)} (hrise : (bs.map Prod.fst).Pairwise (· < ·))
    (hbs : ∀ b ∈ bs, 1 ≤ b.1 ∧ b.1 ≤ 1439 ∧ b.2 ≤ 3) (i before : Nat) (hbefore : ∀ b ∈ bs, before < b.1) :
    badBoundary i before bs = none := by
  induction bs generalizing i before with
  | nil => rfl
  | cons b t ih =>
    obtain ⟨hlow, hhigh, hperiod⟩ := hbs b List.mem_cons_self
    obtain ⟨hfirst, hrest⟩ := List.pairwise_cons.1 hrise
    have hminute : ¬ (b.1 = 0 ∨ 1439 < b.1 ∨ b.1 ≤ before) := by
      have := hbefore b List.mem_cons_self
      omega
    simp only [badBoundary, hminute, Nat.not_lt.2 hperiod, if_false]
    exact ih hrest (fun x hx => hbs x (List.mem_cons_of_mem _ hx)) _ _ fun x hx => hfirst _ (List.mem_map_of_mem hx)

theorem calendarSet_replaces {s : State} {day start : Nat} {bs : List (Nat × Nat)} {t : DayType} (hday : decodeDayType day = some t)
    (hstart : start ≤ 3) (hlen : bs.length ≤ 7) (hrise : (bs.map Prod.fst).Pairwise (· < ·))
    (hbs : ∀ b ∈ bs, 1 ≤ b.1 ∧ b.1 ≤ 1439 ∧ b.2 ≤ 3) :
    calendarSet day start bs s = (.accepted .plain, { s with clk := s.clk.setSchedule t ⟨start, bs⟩ }) := by
  have hnone := badBoundary_eq_none hrise hbs 0 0 fun b hb => (hbs b hb).1
  simp [calendarSet, hday, firstBad, Nat.not_lt.2 hstart, Nat.not_lt.2 hlen, hnone]

/-- The day type of a code 0 or 1 (R195). -/
theorem decodeDayType_of_le {n : Nat} (h : n ≤ 1) : decodeDayType n = some (if n = 0 then .work else .rest) := by
  obtain rfl | rfl : n = 0 ∨ n = 1 := by omega
  all_goals rfl

theorem decodeFlag_of_le {n : Nat} (h : n ≤ 1) : decodeFlag n = some (decide (n = 1)) := by
  obtain rfl | rfl : n = 0 ∨ n = 1 := by omega
  all_goals rfl

theorem weekSet_replaces {s : State} {days : Vector Nat 7} (hdays : ∀ d : Fin 7, days[d] ≤ 1) :
    weekSet days s = (.accepted .plain,
      { s with clk := { s.clk with week := days.map fun d => if d = 0 then .work else .rest } }) := by
  have hmem : ∀ d ∈ days.toList, d ≤ 1 := fun d hd => by
    obtain ⟨i, hi, rfl⟩ := List.getElem_of_mem hd
    simpa using hdays ⟨i, by simpa using hi⟩
  have hgood : badDay days.toList = none := by
    rw [badDay, List.findIdx?_eq_none_iff.2 fun d hd => by rw [decodeDayType_of_le (hmem d hd)]; rfl]
    rfl
  have hweek : (days.map fun d => (decodeDayType d).getD .work) = days.map fun d => if d = 0 then .work else .rest := by
    refine Vector.map_congr_left fun d hd => ?_
    rw [decodeDayType_of_le (hmem d (Vector.mem_toList_iff.2 hd)), Option.getD_some]
  simp [weekSet, hgood, hweek]

theorem timeSet_replaces {s : State} {weekday ds flag : Nat} (hweekday : weekday ≤ 6) (hds : ds ≤ 863999) (hflag : flag ≤ 1) :
    timeSet weekday ds flag s = (.accepted (.time s.clk.clock s.clk.weekday s.clk.ds),
      { s with clk := s.clk.setTime weekday ds (decide (flag = 1)) }) := by
  simp [timeSet, firstBad, Nat.not_lt.2 hweekday, Nat.not_lt.2 hds, decodeFlag_of_le hflag]

/-- Settles O51: the checks pass, and one part of the calendar is written. -/
theorem calendarRequestsReplaceTheirParts : Obligations.CalendarRequestsReplaceTheirParts := by
  refine ⟨fun s h day start bs t ht hday hstart hlen hrise hbs => ?_, fun s h days ht hdays => ?_,
    fun s h weekday ds flag ht hweekday hds hflag => ?_⟩
  · have hact := calendarSet_replaces (s := s.withHanded h) hday hstart hlen hrise hbs
    refine congrArg Host.Outcome.next ((serve_act ht false hact).trans ?_)
    cases t <;> rfl
  · exact congrArg Host.Outcome.next ((serve_act ht false (weekSet_replaces (s := s.withHanded h) hdays)).trans rfl)
  · exact congrArg Host.Outcome.next ((serve_act ht false (timeSet_replaces (s := s.withHanded h) hweekday hds hflag)).trans rfl)

end Sys2Proof.Proofs.Requests


/-! ## Standings and closes (R143 to R146, R150 to R153) -/

namespace Sys2Proof.Proofs.Requests

open Sys2Proof Sys2Proof.Machine Sys2Proof.Proofs.ChargeRecords
open Sys2Proof.Proofs.Tariffs (carrierIndex_succ)

/-! ### Re-evaluation of a standing (R146) -/

section Reevaluate
variable (s : State) (i : Fin 63)

@[simp] theorem setCarrier_setCarrier (x y : Carrier) : (s.setCarrier i x).setCarrier i y = s.setCarrier i y := by
  simp [State.setCarrier]

theorem setCarrier_self : s.setCarrier i s.sac.carriers[i] = s := by simp [State.setCarrier]

/-- A re-evaluation writes the standing R145 gives, and then raises the event of its change, if it changes. -/
theorem reevaluate_eq : s.reevaluate i = (s.setCarrier i { s.sac.carriers[i] with standing := s.sac.carriers[i].derived }).standingEvents
    i s.sac.carriers[i].standing s.sac.carriers[i].derived := by
  unfold State.reevaluate State.standingEvents
  dsimp only
  split_ifs with hsame
  · rw [hsame]
    exact (setCarrier_self s i).symm
  · rfl

/-- A carrier changed and re-evaluated: one write, and the event of the standing's change. -/
theorem changeCarrier_reevaluate_eq (f : Carrier → Carrier) :
    (s.changeCarrier i f).reevaluate i =
      (s.setCarrier i { f s.sac.carriers[i] with standing := (f s.sac.carriers[i]).derived }).standingEvents i
        (f s.sac.carriers[i]).standing (f s.sac.carriers[i]).derived := by
  have hwritten : (s.changeCarrier i f).sac.carriers[i] = f s.sac.carriers[i] := by simp [State.changeCarrier, State.setCarrier]
  rw [reevaluate_eq, hwritten, State.changeCarrier, setCarrier_setCarrier]

end Reevaluate

/-! ### CARRIER_LIMITS and CARRIER_BAR -/

/-- A request that replaces SAC, raises events and replies. -/
theorem place_raised {s : State} {f : State → State} (hf : Raises f) (h : Handed) (x : Sac) (k : Byte) (a : Answer) :
    OnlyEvents { s with lnk := s.lnk.answered k h.tag a, sac := x } ((f { s.withHanded h with sac := x }).place k h.tag a) ∧
      SameEvents (f s) ((f { s.withHanded h with sac := x }).place k h.tag a) :=
  ⟨place_onlyEvents (hf.only { s.withHanded h with sac := x }) k h.tag a,
    hf.sameEvents (s := s) (t := { s.withHanded h with sac := x }) ⟨rfl, rfl, rfl, rfl⟩⟩

theorem changeLimits_eq (i : Fin 63) (f : Carrier → Carrier) (s : State) (hf : ∀ c, (f c).standing = c.standing) :
    changeLimits i f s = (.accepted (.standing s.sac.carriers[i].standing (f s.sac.carriers[i]).derived),
      (s.setCarrier i { f s.sac.carriers[i] with standing := (f s.sac.carriers[i]).derived }).standingEvents i
        s.sac.carriers[i].standing (f s.sac.carriers[i]).derived) := by
  have hevents := (Raises.standingEvents i s.sac.carriers[i].standing (f s.sac.carriers[i]).derived).sac
    (s.setCarrier i { f s.sac.carriers[i] with standing := (f s.sac.carriers[i]).derived })
  rw [changeLimits, changeCarrier_reevaluate_eq, hf, hevents]
  simp [State.setCarrier]

theorem carrierLimits_eq (i : Fin 63) {w k : Nat} (hw : w ≤ 1099511627775) (hk : k ≤ 1099511627775)
    (horder : ¬ (w ≠ 0 ∧ k ≠ 0 ∧ k < w)) (s : State) :
    carrierLimits (i.val + 1) w k s = changeLimits i (fun c => { c with watch := w, cap := k }) s := by
  have hgood : firstBad [(decide (Config.totalMax < w), badField 1), (decide (Config.totalMax < k), badField 2),
      (decide (w ≠ 0 ∧ k ≠ 0 ∧ k < w), badField 1)] = none := by
    simp only [firstBad, Config.totalMax, Nat.not_lt.2 hw, Nat.not_lt.2 hk, horder, decide_false, Bool.false_eq_true, if_false]
  simp only [carrierLimits, carrierIndex_succ, hgood]

theorem carrierBar_eq (i : Fin 63) {f : Nat} (hf : f ≤ 1) (s : State) :
    carrierBar (i.val + 1) f s = changeLimits i (fun c => { c with barred := decide (f = 1) }) s := by
  simp only [carrierBar, carrierIndex_succ, decodeFlag_of_le hf]

/-- A request that changes a carrier and re-evaluates it: the carrier written, the events of its standing, and nothing else. -/
theorem serve_changeLimits {s : State} {c : Instr} {h : Handed} (ht : Taken s c h) {code : Byte} {i : Fin 63}
    {f : Carrier → Carrier} (hf : ∀ c, (f c).standing = c.standing) {act : Count → State → Answer × State}
    (hact : ∀ n u, act n u = changeLimits i f u) :
    OnlyEvents { s with
        lnk := s.lnk.answered code h.tag (.accepted (.standing s.sac.carriers[i].standing (f s.sac.carriers[i]).derived))
        sac := { s.sac with carriers := s.sac.carriers.set i { f s.sac.carriers[i] with standing := (f s.sac.carriers[i]).derived } } }
      (s.serve c code false act) ∧
    SameEvents (s.standingEvents i s.sac.carriers[i].standing (f s.sac.carriers[i]).derived) (s.serve c code false act) := by
  have hevents := Raises.standingEvents i s.sac.carriers[i].standing (f s.sac.carriers[i]).derived
  rw [serve_act ht false ((hact h.arrival _).trans (changeLimits_eq i f (s.withHanded h) hf))]
  exact place_raised hevents h { s.sac with
    carriers := s.sac.carriers.set i { f s.sac.carriers[i] with standing := (f s.sac.carriers[i]).derived } } code _

/-- Settles O52: each request writes its fields and re-evaluates the standing. -/
theorem limitsAndBarSetTheStanding : Obligations.LimitsAndBarSetTheStanding := by
  rintro s h i c code x ht (⟨w, k, rfl, rfl, hw, hk, horder, rfl⟩ | ⟨f, rfl, rfl, hf, rfl⟩)
  · exact ⟨_, rfl, serve_changeLimits (i := i) (f := fun c => { c with watch := w, cap := k }) ht (fun _ => rfl)
      fun _ u => carrierLimits_eq i hw hk horder u⟩
  · exact ⟨_, rfl, serve_changeLimits (i := i) (f := fun c => { c with barred := decide (f = 1) }) ht (fun _ => rfl)
      fun _ u => carrierBar_eq i hf u⟩

/-! ### PERIOD_CLOSE -/

/-- The standing of a carrier whose accounts are closed (R145, R151). -/
def closedStanding (c : Carrier) : Standing := if c.barred = true then .suspended else .normal

/-- A close writes the closed carrier, and raises the event of the standing's change. -/
theorem closeCarrier_eq (period : Nat) (i : Fin 63) (s : State) :
    s.closeCarrier period i = (s.setCarrier i (carrierClosedAt period s.sac.carriers[i])).standingEvents i
      s.sac.carriers[i].standing (closedStanding s.sac.carriers[i]) := by
  have hderived : ∀ c : Carrier, Carrier.derived { c with
      outAccount := c.outAccount.close period, inAccount := c.inAccount.close period } = closedStanding c := fun c => by
    have hcap : ¬ (0 < c.cap ∧ c.cap ≤ 0) := by omega
    have hwatch : ¬ (0 < c.watch ∧ c.watch ≤ 0) := by omega
    simp only [Carrier.derived, Account.close, standingOf, hcap, hwatch, or_false, if_false, closedStanding]
  rw [State.closeCarrier, changeCarrier_reevaluate_eq, hderived]
  rfl

/-- Raising events and writing SAC may be done in either order. -/
theorem Raises.setSac {f : State → State} (h : Raises f) (s : State) (x : Sac) : f { s with sac := x } = { f s with sac := x } := by
  rw [h.eq_of_inputs (s := s) (t := { s with sac := x }) ⟨rfl, rfl, rfl, rfl⟩,
    h.eq_of_inputs (s := s) (t := s) ⟨rfl, rfl, rfl, rfl⟩]

/-- A close of some carriers: every one closed and written, and then the events of their standings in order. -/
def closeEvents (s : State) (is : List (Fin 63)) (u : State) : State :=
  is.foldl (fun u i => u.standingEvents i s.sac.carriers[i].standing (closedStanding s.sac.carriers[i])) u

theorem closeEvents_withHanded (s : State) (h : Handed) (is : List (Fin 63)) :
    closeEvents (s.withHanded h) is = closeEvents s is := rfl

theorem Raises.closeEvents (s : State) (is : List (Fin 63)) : Raises (Requests.closeEvents s is) := by
  induction is with
  | nil => exact .none
  | cons i t ih => exact ih.after (.standingEvents i _ _)

/-- The carriers of a list closed, in the carrier table. -/
def closedCarriers (period : Nat) (is : List (Fin 63)) (v : Vector Carrier 63) : Vector Carrier 63 :=
  is.foldl (fun v i => v.set i.val (carrierClosedAt period v[i]) i.isLt) v

theorem closedCarriers_get {period : Nat} {is : List (Fin 63)} (hnodup : is.Nodup) (v : Vector Carrier 63) (j : Fin 63) :
    (closedCarriers period is v)[j] = if j ∈ is then carrierClosedAt period v[j] else v[j] := by
  induction is generalizing v with
  | nil => simp [closedCarriers]
  | cons i t ih =>
    obtain ⟨hi, ht⟩ := List.nodup_cons.1 hnodup
    have hstep := ih ht (v.set i.val (carrierClosedAt period v[i]) i.isLt)
    rw [closedCarriers, List.foldl_cons, ← closedCarriers, hstep]
    by_cases hj : j = i
    · subst hj
      simp [hi]
    · have hne : i.val ≠ j.val := fun h => hj (Fin.ext h.symm)
      simp [hj, Vector.getElem_set_ne i.isLt j.isLt hne]

theorem closedCarriers_all (period : Nat) (v : Vector Carrier 63) :
    closedCarriers period (List.finRange 63) v = v.map (carrierClosedAt period) := by
  ext j hj
  have h := closedCarriers_get (period := period) (List.nodup_finRange 63) v ⟨j, hj⟩
  simpa using h

theorem foldl_closeCarrier (period : Nat) {is : List (Fin 63)} (hnodup : is.Nodup) (s : State) :
    is.foldl (fun u i => u.closeCarrier period i) s =
      closeEvents s is { s with sac := { s.sac with carriers := closedCarriers period is s.sac.carriers } } := by
  induction is generalizing s with
  | nil => rfl
  | cons i t ih =>
    obtain ⟨hi, ht⟩ := List.nodup_cons.1 hnodup
    have hfirst := Raises.standingEvents i s.sac.carriers[i].standing (closedStanding s.sac.carriers[i])
    have hclosed : (s.closeCarrier period i).sac =
        { s.sac with carriers := s.sac.carriers.set i.val (carrierClosedAt period s.sac.carriers[i]) i.isLt } := by
      rw [closeCarrier_eq, hfirst.sac]
      rfl
    -- The carriers still to be closed stand as they stood.
    have hlater : closeEvents (s.closeCarrier period i) t = closeEvents s t := by
      funext u
      refine List.foldl_ext _ _ _ fun u j hj => ?_
      have hne : i.val ≠ j.val := fun h => hi (Fin.ext h ▸ hj)
      have hsame : (s.closeCarrier period i).sac.carriers[j] = s.sac.carriers[j] := by
        rw [hclosed]
        exact Vector.getElem_set_ne i.isLt j.isLt hne
      rw [hsame]
    have hevents : { s.closeCarrier period i with sac := { s.sac with carriers := closedCarriers period (i :: t) s.sac.carriers } } =
        ({ s with sac := { s.sac with carriers := closedCarriers period (i :: t) s.sac.carriers } } : State).standingEvents i
          s.sac.carriers[i].standing (closedStanding s.sac.carriers[i]) := by
      rw [closeCarrier_eq, ← hfirst.setSac]
      rfl
    rw [List.foldl_cons, ih ht, hlater, hclosed]
    exact congrArg (closeEvents s t) hevents

theorem nextPeriod_eq (s : State) : s.nextPeriod = { s with sac := { s.sac with period := (s.sac.period + 1) % 65536 } } := rfl

theorem periodClose_one (i : Fin 63) (s : State) :
    periodClose (i.val + 1) s =
      (.accepted (.closed (closedAt s.sac.period s.sac.carriers[i].outAccount).statement
          (closedAt s.sac.period s.sac.carriers[i].inAccount).statement ((s.sac.period + 1) % 65536)),
        ({ s with sac := { s.sac with
          carriers := s.sac.carriers.set i.val (carrierClosedAt s.sac.period s.sac.carriers[i]) i.isLt
          period := (s.sac.period + 1) % 65536 } } : State).standingEvents i s.sac.carriers[i].standing
            (closedStanding s.sac.carriers[i])) := by
  have hne : ¬ i.val + 1 = 255 := by omega
  have hevents := Raises.standingEvents i s.sac.carriers[i].standing (closedStanding s.sac.carriers[i])
  have hclosed : (s.closeCarrier s.sac.period i).nextPeriod =
      ({ s with sac := { s.sac with
          carriers := s.sac.carriers.set i.val (carrierClosedAt s.sac.period s.sac.carriers[i]) i.isLt
          period := (s.sac.period + 1) % 65536 } } : State).standingEvents i s.sac.carriers[i].standing
            (closedStanding s.sac.carriers[i]) := by
    rw [nextPeriod_eq, closeCarrier_eq, hevents.sac, ← hevents.setSac]
    rfl
  simp only [periodClose, hne, if_false, carrierIndex_succ, hclosed, hevents.sac]
  simp [carrierClosedAt]

theorem periodClose_all (s : State) :
    periodClose 255 s =
      (.accepted (.closedAll 126
          (s.sac.carriers.toList.map fun c =>
            (if c.outAccount.locked = true then 1 else 0) + (if c.inAccount.locked = true then 1 else 0)).sum
          ((s.sac.period + 1) % 65536)),
        closeEvents s (List.finRange 63) { s with sac := { s.sac with
          carriers := s.sac.carriers.map (carrierClosedAt s.sac.period), period := (s.sac.period + 1) % 65536 } }) := by
  have hevents := Raises.closeEvents s (List.finRange 63)
  have hclosed : ((List.finRange 63).foldl (fun u i => u.closeCarrier s.sac.period i) s).nextPeriod =
      closeEvents s (List.finRange 63) { s with sac := { s.sac with
          carriers := s.sac.carriers.map (carrierClosedAt s.sac.period), period := (s.sac.period + 1) % 65536 } } := by
    rw [foldl_closeCarrier _ (List.nodup_finRange 63), closedCarriers_all, nextPeriod_eq, hevents.sac, ← hevents.setSac]
  simp only [periodClose, if_true, closeAll, hclosed, hevents.sac]
  rfl

/-- Settles O53: each close is one write of the carrier and the event of its standing, in order. -/
theorem periodCloseClosesTheAccounts : Obligations.PeriodCloseClosesTheAccounts := by
  refine fun s h => ⟨fun i ht => ⟨_, rfl, ?_⟩, fun ht => ⟨_, rfl, ?_⟩⟩
  · have hevents := Raises.standingEvents i s.sac.carriers[i].standing (closedStanding s.sac.carriers[i])
    rw [serve_act ht false (periodClose_one i (s.withHanded h))]
    exact place_raised hevents h { s.sac with
      carriers := s.sac.carriers.set i (carrierClosedAt s.sac.period s.sac.carriers[i])
      period := (s.sac.period + 1) % 65536 } 0x40 _
  · rw [serve_act (act := fun _ => periodClose 255) ht false (periodClose_all (s.withHanded h)), closeEvents_withHanded]
    exact place_raised (Raises.closeEvents s (List.finRange 63)) h { s.sac with
      carriers := s.sac.carriers.map (carrierClosedAt s.sac.period), period := (s.sac.period + 1) % 65536 } 0x40 _

end Sys2Proof.Proofs.Requests


/-! ## Overlay slots (chapter 5), and what ENU makes of an event (chapter 10) -/

namespace Sys2Proof.Proofs.Slots

open Sys2Proof Sys2Proof.Machine Sys2Proof.Proofs.ChargeRecords Sys2Proof.Proofs.Requests
open Sys2Proof.Proofs.Invariants (samePair_iff samePair_eq_false)

/-! ### OVERLAY_SET (R91) -/

/-- The trigger a well-formed OVERLAY_SET asks for (R91). -/
theorem readTrigger_eq {f : OverlayFields} {trigger : Trigger}
    (h : f.trigger = 0 ∧ trigger = .manual ∨
      f.trigger = 1 ∧ f.group ≤ 255 ∧ 1 ≤ f.level ∧ f.level ≤ 4 ∧ trigger = .groupLevel f.group f.level ∨
      f.trigger = 2 ∧ 1 ≤ f.carrier ∧ f.carrier ≤ 63 ∧
        (f.standing = 1 ∧ trigger = .carrierStanding f.carrier .watch ∨
          f.standing = 2 ∧ trigger = .carrierStanding f.carrier .suspended) ∨
      f.trigger = 3 ∧ trigger = .recordHigh) : readTrigger f = some (.inr trigger) := by
  unfold readTrigger
  rcases h with ⟨ht, rfl⟩ | ⟨ht, hgroup, hlow, hhigh, rfl⟩ | ⟨ht, hlow, hhigh, hstanding⟩ | ⟨ht, rfl⟩
  all_goals simp only [ht]
  · have hlevel : ¬ (f.level = 0 ∨ 4 < f.level) := by omega
    simp only [firstBad, Nat.not_lt.2 hgroup, hlevel, decide_false, Bool.false_eq_true, if_false]
  · have hcarrier : ¬ (f.carrier = 0 ∨ 63 < f.carrier) := by omega
    rcases hstanding with ⟨hs, rfl⟩ | ⟨hs, rfl⟩ <;> simp [hcarrier, hs, decodeStanding]

theorem overlaySet_eq {s : State} {f : OverlayFields} {i : Fin 16} {trigger : Trigger} {revert : Revert} (hslot : f.slot = i.val)
    (hbase : f.base ≤ 1023) (hsubstitute : f.substitute ≤ 1023) (hrevert : decodeRevert f.revert = some revert)
    (htrigger : readTrigger f = some (.inr trigger)) :
    overlaySet f s = if s.rse.slots[i].state ≠ .disarmed then (.denied .slotActive, s)
      else (.accepted .plain, s.setSlot i ⟨f.base, f.substitute, trigger, revert, .disarmed⟩) := by
  have hin : f.slot < 16 := hslot ▸ i.isLt
  obtain rfl : i = ⟨f.slot, hin⟩ := Fin.ext hslot.symm
  simp [overlaySet, hin, firstBad, htrigger, hrevert, Nat.not_lt.2 hbase, Nat.not_lt.2 hsubstitute]

/-- Settles O47, by the slot's state. -/
theorem overlaySetDefinesTheSlot : Obligations.OverlaySetDefinesTheSlot := by
  intro s h f i trigger revert ht hslot hbase hsubstitute hrevert htrigger
  have hact := overlaySet_eq (s := s.withHanded h) hslot hbase hsubstitute hrevert (readTrigger_eq htrigger)
  refine ⟨fun hstate => ?_, fun hstate => ?_⟩
  · exact congrArg Host.Outcome.next ((serve_act ht false (hact.trans (if_neg (not_not.2 hstate)))).trans rfl)
  · exact congrArg Host.Outcome.next (serve_unchanged ht false (hact.trans (if_pos hstate)))

/-! ### Notices of a changed state -/

/-- Two states that agree on all that making a notice reads. -/
structure NoteInputs (s t : State) : Prop where
  enu : t.enu = s.enu
  phase : t.lnk.phase = s.lnk.phase
  count : t.clk.count = s.clk.count

theorem note_noteInputs {s t : State} (h : NoteInputs s t) (e : Event) : NoteInputs (s.note e) (t.note e) := by
  unfold State.note
  rw [h.enu, h.phase, h.count]
  split
  · exact ⟨rfl, h.phase, h.count⟩
  · exact h

theorem foldl_note_noteInputs {α : Type} (f : α → Event) (l : List α) {s t : State} (h : NoteInputs s t) :
    NoteInputs (l.foldl (fun u a => u.note (f a)) s) (l.foldl (fun u a => u.note (f a)) t) := by
  induction l generalizing s t with
  | nil => exact h
  | cons a l ih => exact ih (note_noteInputs h _)

/-- A notice writes ENU alone. -/
theorem note_eq {s t : State} (h : NoteInputs s t) (e : Event) : t.note e = { t with enu := (s.note e).enu } := by
  have hself : t.note e = { t with enu := (t.note e).enu } := by
    unfold State.note
    split_ifs <;> rfl
  rw [← (note_noteInputs h e).enu]
  exact hself

/-! ### The slot requests (R95 to R99) -/

/-- A slot's state moved, with the OVERLAY notice of a change into or out of ACTIVE (R99). -/
def movedSlot (i : Fin 16) (after : SlotState) (cause : OverlayCause) (s : State) : State :=
  { s with
    rse := { s.rse with slots := s.rse.slots.set i { s.rse.slots[i] with state := after } }
    enu := if s.rse.slots[i].state = after ∨ (s.rse.slots[i].state ≠ .active ∧ after ≠ .active) then s.enu
      else (s.note (.overlay i.val after cause)).enu }

section Moved
variable (s : State) (i : Fin 16) (after : SlotState) (cause : OverlayCause)

theorem setSlot_self : s.setSlot i s.rse.slots[i] = s := by simp [State.setSlot]

@[simp] theorem movedSlot_state : (movedSlot i after cause s).rse.slots[i].state = after := by simp [movedSlot]

theorem movedSlot_same (h : s.rse.slots[i].state = after) : movedSlot i after cause s = s := by
  subst h
  rw [movedSlot, if_pos (.inl rfl)]
  exact setSlot_self s i

theorem movedSlot_quiet (h : s.rse.slots[i].state ≠ .active) (hafter : after ≠ .active) :
    movedSlot i after cause s = s.quietSlot i after := by
  rw [movedSlot, if_pos (.inr ⟨h, hafter⟩)]
  rfl

theorem movedSlot_active (hne : s.rse.slots[i].state ≠ after) (h : s.rse.slots[i].state = .active ∨ after = .active) :
    movedSlot i after cause s = s.changeSlot i after cause := by
  have hmoves : ¬ (s.rse.slots[i].state = after ∨ (s.rse.slots[i].state ≠ .active ∧ after ≠ .active)) := by
    rintro (hsame | ⟨hold, hnew⟩)
    · exact hne hsame
    · exact h.elim hold hnew
  have hnote := note_eq (s := s) (t := s.setSlot i { s.rse.slots[i] with state := after }) ⟨rfl, rfl, rfl⟩
    (.overlay i.val after cause)
  rw [movedSlot, if_neg hmoves, State.changeSlot, hnote]
  rfl

end Moved

theorem triggers?_eq {e : Enu} {k : Kind} (h : k.triggerCapable = true) : e.triggers? k = ((e.config k).route != .notice) := by
  rw [Enu.triggers?, h, Bool.true_and]

/-- The arming test is R92's condition on the present value (R95). -/
theorem armingTest_eq (s : State) (t : Trigger) : armingTest s t = conditionHolds s t := by
  cases t with
  | manual => rfl
  | groupLevel g k =>
    simp only [armingTest, presentEvent, conditionHolds, triggers?_eq (k := .groupLevel) rfl]
    cases (s.enu.config .groupLevel).route != .notice
    · rfl
    · cases hr : s.group? g <;> simp [Trigger.holds?]
  | carrierStanding c st =>
    simp only [armingTest, presentEvent, conditionHolds, triggers?_eq (k := .carrierStanding) rfl]
    cases (s.enu.config .carrierStanding).route != .notice <;> simp [Trigger.holds?]
  | recordHigh =>
    simp only [armingTest, presentEvent, conditionHolds, triggers?_eq (k := .recordHigh) rfl]
    cases (s.enu.config .recordHigh).route != .notice <;> simp [Trigger.holds?]

section Acts
variable (s : State) (i : Fin 16)

/-- The state that OVERLAY_ARM gives a slot (R95). -/
def armedAs (holds : Bool) : SlotState → SlotState
  | .disarmed => if holds then .active else .armed
  | .armed => .armed
  | .active => .active

theorem armSlot_eq : armSlot i s.rse.slots[i] s =
    some (movedSlot i (armedAs (conditionHolds s s.rse.slots[i].trigger) s.rse.slots[i].state) .arm s) := by
  unfold armSlot
  rw [armingTest_eq]
  cases hstate : s.rse.slots[i].state with
  | disarmed =>
    have hne : s.rse.slots[i].state ≠ .active := hstate.trans_ne (by decide)
    cases conditionHolds s s.rse.slots[i].trigger with
    | true => exact congrArg some (movedSlot_active s i .active .arm hne (.inr rfl)).symm
    | false => exact congrArg some (movedSlot_quiet s i .armed .arm hne (by decide)).symm
  | armed => exact congrArg some (movedSlot_same s i .armed .arm hstate).symm
  | active => exact congrArg some (movedSlot_same s i .active .arm hstate).symm

theorem disarmSlot_eq : disarmSlot i s.rse.slots[i] s = some (movedSlot i .disarmed .disarm s) := by
  unfold disarmSlot
  cases hstate : s.rse.slots[i].state with
  | disarmed => exact congrArg some (movedSlot_same s i .disarmed .disarm hstate).symm
  | armed => exact congrArg some (movedSlot_quiet s i .disarmed .disarm (hstate.trans_ne (by decide)) (by decide)).symm
  | active => exact congrArg some (movedSlot_active s i .disarmed .disarm (hstate.trans_ne (by decide)) (.inl hstate)).symm

theorem fireSlot_eq (h : s.rse.slots[i].state ≠ .disarmed) : fireSlot i s.rse.slots[i] s = some (movedSlot i .active .fire s) := by
  unfold fireSlot
  cases hstate : s.rse.slots[i].state with
  | disarmed => exact absurd hstate h
  | armed => exact congrArg some (movedSlot_active s i .active .fire (hstate.trans_ne (by decide)) (.inr rfl)).symm
  | active => exact congrArg some (movedSlot_same s i .active .fire hstate).symm

theorem revertSlot_eq (h : s.rse.slots[i].state ≠ .disarmed) :
    revertSlot i s.rse.slots[i] s = some (movedSlot i .armed .revert s) := by
  unfold revertSlot
  cases hstate : s.rse.slots[i].state with
  | disarmed => exact absurd hstate h
  | armed => exact congrArg some (movedSlot_same s i .armed .revert hstate).symm
  | active => exact congrArg some (movedSlot_active s i .armed .revert (hstate.trans_ne (by decide)) (.inl hstate)).symm

theorem onSlot_eq (f : Fin 16 → Slot → State → Option State) : onSlot i.val f s =
    match f i s.rse.slots[i] s with
    | some t => (.accepted (.slot s.rse.slots[i].state t.rse.slots[i].state), t)
    | none => (.denied .wrongState, s) := by
  rw [onSlot, dif_pos i.isLt]
  rfl

end Acts

/-- A slot request that is taken moves its slot and replies with the states before and after. -/
theorem serve_onSlot {s : State} {c : Instr} {h : Handed} (ht : Taken s c h) {f : Fin 16 → Slot → State → Option State} {i : Fin 16}
    {after : SlotState} {cause : OverlayCause}
    (hf : f i s.rse.slots[i] (s.withHanded h) = some (movedSlot i after cause (s.withHanded h))) (code : Byte) :
    s.serve c code false (fun _ => onSlot i.val f) = { movedSlot i after cause s with
      lnk := s.lnk.answered code h.tag (.accepted (.slot s.rse.slots[i].state after)) } := by
  have hact : onSlot i.val f (s.withHanded h) =
      (.accepted (.slot s.rse.slots[i].state after), movedSlot i after cause (s.withHanded h)) := by
    rw [onSlot_eq]
    simp only [State.withHanded_rse, hf, movedSlot_state]
  have hnote : ((s.withHanded h).note (.overlay i.val after cause)).enu = (s.note (.overlay i.val after cause)).enu :=
    (note_noteInputs (s := s) (t := s.withHanded h) ⟨rfl, rfl, rfl⟩ _).enu
  rw [serve_act ht false hact]
  simp only [movedSlot, State.withHanded_rse, State.withHanded_enu, hnote]
  rfl

theorem serve_onSlot_refused {s : State} {c : Instr} {h : Handed} (ht : Taken s c h) {f : Fin 16 → Slot → State → Option State}
    {i : Fin 16} (hf : f i s.rse.slots[i] (s.withHanded h) = none) (code : Byte) :
    s.serve c code false (fun _ => onSlot i.val f) = { s with lnk := s.lnk.answered code h.tag (.denied .wrongState) } := by
  refine serve_unchanged ht false ?_
  rw [onSlot_eq]
  simp only [State.withHanded_rse, hf]

/-- The condition is tested on what a request handed on leaves as it is. -/
theorem conditionHolds_withHanded (s : State) (h : Handed) (t : Trigger) : conditionHolds (s.withHanded h) t = conditionHolds s t := by
  cases t <;> rfl

section SlotAfter
variable (n : Nat) (holds : Bool) (x : SlotState)

theorem slotAfter_arm : slotAfter (.overlayArm n) holds x = some (0x21, .arm, armedAs holds x) := by cases x <;> rfl

theorem slotAfter_disarm : slotAfter (.overlayDisarm n) holds x = some (0x22, .disarm, .disarmed) := rfl

theorem slotAfter_fire : slotAfter (.overlayFire n) holds x = if x = .disarmed then none else some (0x23, .fire, .active) := by
  cases x <;> rfl

theorem slotAfter_revert : slotAfter (.overlayRevert n) holds x = if x = .disarmed then none else some (0x24, .revert, .armed) := by
  cases x <;> rfl

end SlotAfter

/-- Settles O48, request by request. -/
theorem overlayRequestsMoveTheSlot : Obligations.OverlayRequestsMoveTheSlot := by
  intro s h c i hc ht
  simp only [List.mem_cons, List.not_mem_nil, or_false] at hc
  rcases hc with rfl | rfl | rfl | rfl
  · have hact := armSlot_eq (s.withHanded h) i
    rw [conditionHolds_withHanded] at hact
    rw [slotAfter_arm]
    refine ⟨fun code cause after hafter => ?_, fun hnone => by cases hnone⟩
    cases hafter
    exact congrArg Host.Outcome.next (serve_onSlot ht hact 0x21)
  · rw [slotAfter_disarm]
    refine ⟨fun code cause after hafter => ?_, fun hnone => by cases hnone⟩
    cases hafter
    exact congrArg Host.Outcome.next (serve_onSlot ht (disarmSlot_eq (s.withHanded h) i) 0x22)
  · rw [slotAfter_fire]
    refine ⟨fun code cause after hafter => ?_, fun hnone => ⟨0x23, by simp, ?_⟩⟩
    · split_ifs at hafter with hstate
      cases hafter
      exact congrArg Host.Outcome.next (serve_onSlot ht (fireSlot_eq (s.withHanded h) i hstate) 0x23)
    · split_ifs at hnone with hstate
      exact congrArg Host.Outcome.next (serve_onSlot_refused ht (by rw [fireSlot, hstate]) 0x23)
  · rw [slotAfter_revert]
    refine ⟨fun code cause after hafter => ?_, fun hnone => ⟨0x24, by simp, ?_⟩⟩
    · split_ifs at hafter with hstate
      cases hafter
      exact congrArg Host.Outcome.next (serve_onSlot ht (revertSlot_eq (s.withHanded h) i hstate) 0x24)
    · split_ifs at hnone with hstate
      exact congrArg Host.Outcome.next (serve_onSlot_refused ht (by rw [revertSlot, hstate]) 0x24)

/-! ### Making a notice (R173 to R176) -/

section Note
variable {s : State} {e : Event}

theorem note_unmade (h : s.lnk.phase = .clearing ∨ (s.enu.config e.kind).enable = false ∨ (s.enu.config e.kind).route = .trigger) :
    s.note e = s := by
  refine if_neg fun ⟨hphase, hmade⟩ => ?_
  simp only [Enu.notices?, Bool.and_eq_true, bne_iff_ne] at hmade
  rcases h with h | h | h
  · exact hphase h
  · rw [h] at hmade
    cases hmade.1
  · exact hmade.2 h

theorem note_made (hphase : s.lnk.phase ≠ .clearing) (henable : (s.enu.config e.kind).enable = true)
    (hroute : (s.enu.config e.kind).route ≠ .trigger) :
    s.note e = { s with enu := { s.enu with notices := enterNotice s.clk.count e s.enu.notices } } :=
  if_pos ⟨hphase, by simp [Enu.notices?, henable, hroute]⟩

end Note

section Enter
variable {now : Count} {e : Event} {before after q : List Notice} {x : Notice}

theorem map_unpaired (h : ∀ y ∈ q, ¬ (y.event.kind = e.kind ∧ y.event.subject = e.subject)) : coalesce now e q = q := by
  refine (List.map_congr_left fun y hy => ?_).trans (List.map_id q)
  rw [samePair_eq_false.2 (h y hy)]
  rfl

/-- The one entry of an event's pair takes it (R175). -/
theorem coalesceOrAppend_paired (hkind : x.event.kind = e.kind) (hsubject : x.event.subject = e.subject)
    (hothers : ∀ y ∈ before ++ after, ¬ (y.event.kind = e.kind ∧ y.event.subject = e.subject)) :
    coalesceOrAppend now e (before ++ x :: after) = before ++ ⟨e, min (x.count + 1) 65535, now⟩ :: after := by
  have hpair : x.event.samePair e = true := samePair_iff.2 ⟨hkind, hsubject⟩
  have hany : (before ++ x :: after).any (fun n => n.event.samePair e) = true := by simp [hpair]
  have hbefore := map_unpaired (now := now) fun y hy => hothers y (List.mem_append_left _ hy)
  have hafter := map_unpaired (now := now) fun y hy => hothers y (List.mem_append_right _ hy)
  rw [coalesceOrAppend, if_pos hany]
  unfold coalesce at *
  rw [List.map_append, List.map_cons, hbefore, hafter, hpair]
  rfl

theorem any_unpaired (h : ∀ y ∈ q, ¬ (y.event.kind = e.kind ∧ y.event.subject = e.subject)) :
    q.any (fun n => n.event.samePair e) = false :=
  List.any_eq_false.2 fun y hy => by rw [samePair_eq_false.2 (h y hy)]; simp

/-- An event whose pair has no entry is the youngest (R175). -/
theorem coalesceOrAppend_unpaired (h : ∀ y ∈ q, ¬ (y.event.kind = e.kind ∧ y.event.subject = e.subject)) :
    coalesceOrAppend now e q = q ++ [⟨e, 1, now⟩] := by
  rw [coalesceOrAppend, any_unpaired h]
  rfl

theorem enterNotice_paired (hkind : x.event.kind = e.kind) (hsubject : x.event.subject = e.subject)
    (hothers : ∀ y ∈ before ++ after, ¬ (y.event.kind = e.kind ∧ y.event.subject = e.subject)) :
    enterNotice now e (before ++ x :: after) = before ++ ⟨e, min (x.count + 1) 65535, now⟩ :: after := by
  have hpair : x.event.samePair e = true := samePair_iff.2 ⟨hkind, hsubject⟩
  rw [enterNotice, if_pos (by simp [hpair]), coalesceOrAppend_paired hkind hsubject hothers]

variable (hnone : ∀ y ∈ q, ¬ (y.event.kind = e.kind ∧ y.event.subject = e.subject))
include hnone

theorem enterNotice_unpaired (hroom : ordinaryCount q < 63) : enterNotice now e q = q ++ [⟨e, 1, now⟩] := by
  have hplace : (q.any (fun n => n.event.samePair e) || decide (ordinaryCount q < Config.notices)) = true := by
    rw [any_unpaired hnone, Bool.false_or]
    exact decide_eq_true hroom
  rw [enterNotice, if_pos hplace, coalesceOrAppend_unpaired hnone]

/-- An event without a place is dropped into NOTICE_OVERFLOW (R176). -/
theorem enterNotice_dropped (hfull : 63 ≤ ordinaryCount q) :
    enterNotice now e q = coalesceOrAppend now (.noticeOverflow e.kind) q := by
  have hplace : ¬ (q.any (fun n => n.event.samePair e) || decide (ordinaryCount q < Config.notices)) = true := by
    rw [any_unpaired hnone, Bool.false_or, decide_eq_true_iff]
    exact Nat.not_lt.2 hfull
  rw [enterNotice, if_neg hplace]

end Enter

/-- An event of kind NOTICE_OVERFLOW has no subject, so its kind alone decides its pair (R169). -/
theorem subject_of_noticeOverflow {e : Event} (h : e.kind = .noticeOverflow) : e.subject = none := by
  cases e <;> first | rfl | cases h

/-! ### Handing an event to the slots (R93, R94) -/

/-- The state that an event gives a slot (R94). -/
def evaluated (e : Event) (x : Slot) : SlotState :=
  match x.trigger.holds? e with
  | some true => if x.state = .armed then .active else x.state
  | some false => if x.state = .active ∧ x.revert = .auto then .armed else x.state
  | none => x.state

/-- One slot is changed when the event gives it another state. -/
theorem evalSlot_eq (s : State) (e : Event) (i : Fin 16) : s.evalSlot e i =
    if evaluated e s.rse.slots[i] = s.rse.slots[i].state then s
    else s.changeSlot i (evaluated e s.rse.slots[i]) .trigger := by
  unfold State.evalSlot evaluated
  dsimp only
  generalize s.rse.slots[i] = x
  cases x.trigger.holds? e with
  | none => simp
  | some holds =>
    cases holds with
    | true => cases x.state <;> simp
    | false => cases x.state <;> cases x.revert <;> simp

/-- An event's evaluation of one slot: the slot's state, its OVERLAY notice where it moved, and nothing else. -/
theorem evalSlot_writes (s : State) (e : Event) (i : Fin 16) :
    (s.evalSlot e i).rse.slots = s.rse.slots.set i { s.rse.slots[i] with state := evaluated e s.rse.slots[i] } ∧
    NoteInputs (if evaluated e s.rse.slots[i] != s.rse.slots[i].state
      then s.note (.overlay i.val (evaluated e s.rse.slots[i]) .trigger) else s) (s.evalSlot e i) := by
  rw [evalSlot_eq]
  by_cases hsame : evaluated e s.rse.slots[i] = s.rse.slots[i].state
  · rw [hsame, if_pos rfl, bne_self_eq_false, if_neg Bool.false_ne_true]
    exact ⟨(Vector.set_getElem_self i.isLt).symm, rfl, rfl, rfl⟩
  · rw [if_neg hsame, if_pos (bne_iff_ne.2 hsame)]
    exact ⟨changeSlot_slots s i _ _, note_noteInputs (s := s)
      (t := s.setSlot i { s.rse.slots[i] with state := evaluated e s.rse.slots[i] }) ⟨rfl, rfl, rfl⟩ _⟩

/-- The OVERLAY notices of the slots that an event moves, in the order of a list of slots. -/
def movedNotices (e : Event) (v : Vector Slot 16) (is : List (Fin 16)) (u : State) : State :=
  (is.filter fun i => evaluated e v[i] != v[i].state).foldl (fun u i => u.note (.overlay i.val (evaluated e v[i]) .trigger)) u

theorem movedNotices_cons (e : Event) (v : Vector Slot 16) (i : Fin 16) (is : List (Fin 16)) (u : State) :
    movedNotices e v (i :: is) u = movedNotices e v is
      (if evaluated e v[i] != v[i].state then u.note (.overlay i.val (evaluated e v[i]) .trigger) else u) := by
  unfold movedNotices
  rw [List.filter_cons]
  split_ifs <;> rfl

/-- An event evaluates each slot of a list once: each takes its state, and the notices follow in the list's order. -/
theorem foldl_evalSlot (e : Event) {is : List (Fin 16)} (hnodup : is.Nodup) (s : State) :
    (∀ j : Fin 16, (is.foldl (fun u i => u.evalSlot e i) s).rse.slots[j] =
      if j ∈ is then { s.rse.slots[j] with state := evaluated e s.rse.slots[j] } else s.rse.slots[j]) ∧
    NoteInputs (movedNotices e s.rse.slots is s) (is.foldl (fun u i => u.evalSlot e i) s) := by
  induction is generalizing s with
  | nil => exact ⟨fun j => by simp, rfl, rfl, rfl⟩
  | cons i t ih =>
    obtain ⟨hi, ht⟩ := List.nodup_cons.1 hnodup
    obtain ⟨hslots, hinputs⟩ := evalSlot_writes s e i
    obtain ⟨ihslots, ihinputs⟩ := ih ht (s.evalSlot e i)
    have hother : ∀ j : Fin 16, j ≠ i → (s.evalSlot e i).rse.slots[j] = s.rse.slots[j] := fun j hj => by
      have hne : i.val ≠ j.val := fun h => hj (Fin.ext h.symm)
      rw [hslots]
      exact Vector.getElem_set_ne i.isLt j.isLt hne
    refine ⟨fun j => ?_, ?_⟩
    · rw [List.foldl_cons, ihslots]
      by_cases hj : j = i
      · subst hj
        simp [hi, hslots]
      · simp [hj, hother j hj]
    · -- The slots still to be evaluated stand as they stood.
      have hlater : movedNotices e (s.evalSlot e i).rse.slots t = movedNotices e s.rse.slots t := by
        have hsame : ∀ j ∈ t, (s.evalSlot e i).rse.slots[j] = s.rse.slots[j] := fun j hj =>
          hother j fun h => hi (h ▸ hj)
        funext u
        unfold movedNotices
        rw [List.filter_congr fun j hj => by rw [hsame j hj]]
        exact List.foldl_ext _ _ _ fun v j hj => by rw [hsame j (List.mem_of_mem_filter hj)]
      rw [hlater] at ihinputs
      rw [List.foldl_cons, movedNotices_cons]
      have hnotices := foldl_note_noteInputs (fun j : Fin 16 => Event.overlay j.val (evaluated e s.rse.slots[j]) .trigger)
        (t.filter fun j => evaluated e s.rse.slots[j] != s.rse.slots[j].state) hinputs
      exact ⟨ihinputs.enu.trans hnotices.enu, ihinputs.phase.trans hnotices.phase, ihinputs.count.trans hnotices.count⟩

theorem raise_untriggered {s : State} {e : Event} (h : s.enu.triggers? e.kind = false) : s.raise e = s.note e := by
  have hkinds : (s.note e).enu.kinds = s.enu.kinds := by
    obtain ⟨_, _, hnote⟩ := note_eventOnly s e
    rw [hnote]
  have htriggers : (s.note e).enu.triggers? e.kind = false := by
    rw [← h]
    simp only [Enu.triggers?, Enu.config, hkinds]
  rw [State.raise, State.handToSlots, htriggers]
  rfl

theorem raise_triggered {s : State} {e : Event} (h : s.enu.triggers? e.kind = true) :
    s.raise e = (List.finRange 16).foldl (fun u i => u.evalSlot e i) (s.note e) := by
  have hkinds : (s.note e).enu.kinds = s.enu.kinds := by
    obtain ⟨_, _, hnote⟩ := note_eventOnly s e
    rw [hnote]
  have htriggers : (s.note e).enu.triggers? e.kind = true := by
    rw [← h]
    simp only [Enu.triggers?, Enu.config, hkinds]
  rw [State.raise, State.handToSlots, htriggers]
  rfl

/-- Settles O49: the notice's place in the queue, and each slot evaluated once in order. -/
theorem eventsMoveTheWatchingSlots : Obligations.EventsMoveTheWatchingSlots := by
  refine ⟨fun s e => ⟨note_unmade, ?_⟩, fun s e => raise_untriggered, fun s e htriggers => ?_⟩
  · intro hphase henable hroute enters
    have hmade := note_made hphase henable hroute
    have henters : ∀ q, enterNotice s.clk.count e s.enu.notices = q → enters q := fun q hq => hq ▸ hmade
    refine ⟨fun before x after hqueue hkind hsubject hothers => henters _ ?_, fun hnone => ⟨fun hroom => henters _ ?_,
      fun hfull => ⟨fun hempty => henters _ ?_, fun before x after hqueue hkind hothers => henters _ ?_⟩⟩⟩
    · rw [hqueue, enterNotice_paired hkind hsubject hothers]
    · exact enterNotice_unpaired hnone hroom
    · rw [enterNotice_dropped hnone hfull]
      exact coalesceOrAppend_unpaired fun y hy h => hempty y hy h.1
    · have hsubject : x.event.subject = (Event.noticeOverflow e.kind).subject := subject_of_noticeOverflow hkind
      rw [enterNotice_dropped hnone hfull, hqueue]
      exact coalesceOrAppend_paired hkind hsubject fun y hy h => hothers y hy h.1
  · obtain ⟨hslots, hinputs⟩ := foldl_evalSlot e (List.nodup_finRange 16) (s.note e)
    rw [← raise_triggered htriggers, note_rse] at hinputs
    rw [← raise_triggered htriggers, note_rse] at hslots
    have hstate : ∀ i : Fin 16, (s.raise e).rse.slots[i].state = evaluated e s.rse.slots[i] := fun i => by
      rw [hslots i, if_pos (List.mem_finRange i)]
    refine ⟨raise_onlyEvents s e, fun i => (hstate i).trans rfl, ?_⟩
    simp only [hstate]
    exact hinputs.enu

end Sys2Proof.Proofs.Slots


/-! ## Timers and the clock: the expiries and the end of a decisecond -/

namespace Sys2Proof.Proofs.Timers

open Sys2Proof.Machine Sys2Proof.Proofs.ChargeRecords Sys2Proof.Proofs.Circuits Sys2Proof.Proofs.Requests Sys2Proof.Proofs.Slots

theorem mapGroups_group? (s : State) (f : Group → Group) (g : Nat) : (s.mapGroups f).group? g = (s.group? g).map f := by
  unfold State.group?
  split
  · exact tget_tmap s.ctb.groups g f
  · rfl

/-! ### The clock -/

theorem tick_clk_advance {c : Clk} (hdue : c.midnightDue = false) :
    c.advance = if c.ds < 863999 then { c with count := c.count + 1, ds := c.ds + 1 }
      else { c with count := c.count + 1, midnightDue := true } := by
  have hlast : c.ds + 1 < Config.day ↔ c.ds < 863999 := by
    rw [Config.day]
    omega
  simp [Clk.advance, hdue, hlast]

theorem exec_endOfDecisecond {s : State} (h : s.lnk.phase ≠ .inReset) : exec .endOfDecisecond s = .next s.tick := by
  show execEndOfDecisecond s = _
  unfold execEndOfDecisecond
  cases hphase : s.lnk.phase with
  | inReset => exact absurd hphase h
  | clearing => rfl
  | running => rfl

/-- Settles O60: a tick maps each table by what one decisecond makes of its entries. -/
theorem clockStepsAdvance : Obligations.ClockStepsAdvance := by
  refine ⟨fun s hdue => ?rollover, fun s hphase hdue => ⟨s.tick, exec_endOfDecisecond hphase, tick_clk_advance hdue, fun g => ?groups,
    fun i => ?dests, rfl, ⟨rfl, rfl, rfl⟩, rfl, rfl, rfl, rfl, rfl⟩⟩
  case rollover => exact congrArg Host.Outcome.next (if_pos hdue)
  case groups => exact (mapGroups_group? s Group.tick g).trans rfl
  case dests => exact tget_tmap s.rse.dests i Dest.tick

/-! ### The expiries -/

/-- An event of a kind that no trigger can name moves no slot (R92, R173). -/
theorem raise_eq_note {s : State} {e : Event} (h : e.kind.triggerCapable = false) : s.raise e = s.note e :=
  raise_untriggered (by rw [Enu.triggers?, h, Bool.false_and])

theorem raise_rse_of_untriggered {s : State} {e : Event} (h : e.kind.triggerCapable = false) : (s.raise e).rse = s.rse := by
  rw [raise_eq_note h, note_rse]

section Expiries
variable {s : State} {g m n i : Nat} {r : Group} {c : Circuit} {x : Context} {o : OutLeg} {d : Dest}

theorem exec_guardTimerExpiry (hr : s.group? g = some r) (hc : r.members[m]? = some c) (hstate : c.state = .guard)
    (htimer : c.guardTimer = some 0) :
    exec (.guardTimerExpiry g m) s = .next (s.setGroup g (r.setCircuit m Circuit.fresh)) := by
  show execGuardTimerExpiry g m s = _
  simp [execGuardTimerExpiry, circuit?_eq hr, hc, hstate, htimer, setCircuit_eq hr]

theorem settleGuard_eq (s : State) (b : Bool) : s.settleGuard b = { s with sac := s.sac.settled b } := by
  cases b <;> rfl

theorem timeoutContext_eq (hx : s.context? n = some x) (ho : x.outLeg = some o) :
    s.timeoutContext n = ({ s with sac := s.sac.settled o.guarded } : State).setContext n (x.halt .timeout (some (o.entry + 1))) := by
  rw [← settleGuard_eq]
  simp [State.timeoutContext, hx, ho]

theorem drainedAs_tallies (r : Group) : (drainedAs r).tallies = r.tallies := by
  unfold drainedAs
  split_ifs <;> rfl

/-- What a seize timer's expiry leaves before CIRCUIT_TROUBLE: the circuit released with the drain, the context halted, the timeout
counted (R16, R40). -/
def timedOut (g n : Nat) (after : Group) (x : Context) (o : OutLeg) (s : State) : State :=
  (({ s.drainEvents g after with sac := s.sac.settled o.guarded } : State).setContext n (x.halt .timeout (some (o.entry + 1)))).setGroup g
    { drainedAs after with tallies := { after.tallies with timeouts := tallyUp after.tallies.timeouts } }

theorem settled_setGroup (s : State) (g n : Nat) (q r : Group) (x : Context) (b : Bool) :
    (({ s.setGroup g q with sac := (s.setGroup g q).sac.settled b } : State).setContext n x).setGroup g r =
      (({ s with sac := s.sac.settled b } : State).setContext n x).setGroup g r :=
  setGroup_setGroup (({ s with sac := s.sac.settled b } : State).setContext n x) g q r

theorem exec_seizeTimerExpiry (hr : s.group? g = some r) (hc : r.members[m]? = some c) (hstate : c.state = .outPending)
    (htimer : c.seizeTimer = some 0) (hn : c.context = some n) (hx : s.context? n = some x) (ho : x.outLeg = some o) :
    exec (.seizeTimerExpiry g m) s =
      .next ((timedOut g n (r.setCircuit m (releasedAs r c)) x o s).raise (.circuitTrouble g m .timeout)) := by
  have hdrain := Raises.drainEvents g (r.setCircuit m (releasedAs r c))
  have hrelease : s.ordinaryRelease g m = (s.drainEvents g (r.setCircuit m (releasedAs r c))).setGroup g
      (drainedAs (r.setCircuit m (releasedAs r c))) := by
    rw [ordinaryRelease_eq hr hc (by rw [hstate]; rfl), hdrain.setGroup]
  have hcontext : (s.ordinaryRelease g m).context? n = some x := by
    rw [hrelease, ← hx]
    exact context?_congr (hdrain.contexts s) n
  have hgroup : ((s.ordinaryRelease g m).timeoutContext n).group? g = some (drainedAs (r.setCircuit m (releasedAs r c))) := by
    rw [timeoutContext_eq hcontext ho, hrelease]
    exact setGroup_group?_same _ g _ (lt_of_group? hr)
  show execSeizeTimerExpiry g m s = _
  simp only [execSeizeTimerExpiry, circuit?_eq hr, hc, hstate, htimer, hn, and_self, if_true]
  rw [countTally_eq hgroup, timeoutContext_eq hcontext ho, hrelease, settled_setGroup, hdrain.sac, drainedAs_tallies]
  rfl

theorem exec_sampleTimerExpiry (hr : s.group? g = some r) (htimer : r.sampleTimer = some 0) :
    exec (.sampleTimerExpiry g) s = .next (if levelOf r.sampled = r.level
      then s.setGroup g { r with score := r.sampled, sampleTimer := some r.sampleInterval }
      else (s.setGroup g { r with score := r.sampled, sampleTimer := some r.sampleInterval }).raise (.groupLevel g (levelOf r.sampled))) := by
  have hscore := setScore_eq (setGroup_group?_same s g { r with sampleTimer := some r.sampleInterval } (lt_of_group? hr)) r.sampled
  rw [setGroup_setGroup] at hscore
  show execSampleTimerExpiry g s = _
  simp only [execSampleTimerExpiry, hr, htimer, if_true]
  exact congrArg Host.Outcome.next hscore

theorem exec_markExpiry (hd : s.dest? i = some d) (htimer : d.markTimer = some 0) :
    exec (.markExpiry i) s = .next ((s.setDest i { d with mark := 0, markTimer := none }).raise (.farMarkExpired i d.mark)) := by
  show execMarkExpiry i s = _
  simp [execMarkExpiry, hd, htimer]

end Expiries

/-- Settles O59, expiry by expiry: each is a write of the record whose timer has run out, and its events. -/
theorem timersExpire : Obligations.TimersExpire := by
  refine ⟨fun s g m r c hr hc hstate htimer => ?guard, fun s g m n r c x o y hr hc hstate htimer hn hx ho hy => ?seize,
    fun s g r hr htimer => ?sample, fun s i d hd htimer => ?mark⟩
  case guard =>
    exact ⟨_, exec_guardTimerExpiry hr hc hstate htimer, rfl, setGroup_group?_same s g _ (lt_of_group? hr),
      fun k hk => setGroup_group?_other s g k _ hk, rfl, rfl, rfl, rfl, rfl, rfl⟩
  case seize =>
    intro after
    have hdrain := Raises.drainEvents g after
    have htrouble := Raises.event (.circuitTrouble g m .timeout)
    have hinputs : EventInputs (s.drainEvents g after) (timedOut g n after x o s) := ⟨rfl, rfl, rfl, rfl⟩
    refine ⟨_, exec_seizeTimerExpiry hr hc hstate htimer hn hx ho, (htrouble.lnk _).trans (hdrain.lnk s), ?_, fun k hk => ?_, ?_,
      htrouble.sameEvents hinputs, fun k hk => ?_, htrouble.sac _, (htrouble.dests _).trans (hdrain.dests s),
      (htrouble.lists _).trans (hdrain.lists s), (htrouble.sweep _).trans (hdrain.sweep s), (htrouble.clk _).trans (hdrain.clk s),
      (htrouble.rte _).trans (hdrain.rte s), (htrouble.pending _).trans (hdrain.pending s)⟩
    · refine (context?_congr (htrouble.contexts _) n).trans ?_
      rw [timedOut]
      exact (setContext_context?_same _ n _).trans (by simp [Context.halt, hy])
    · refine (context?_congr (htrouble.contexts _) k).trans ?_
      rw [timedOut]
      refine (setContext_context?_other _ n k _ hk).trans ?_
      exact context?_congr (hdrain.contexts s) k
    · exact (htrouble.group? _ g).trans (setGroup_group?_same _ g _ (lt_of_group? hr))
    · refine (htrouble.group? _ k).trans ((setGroup_group?_other _ g k _ hk).trans ?_)
      exact hdrain.group? s k
  case sample =>
    intro score
    have hevents : Raises fun u => if levelOf score = r.level then u else u.raise (.groupLevel g (levelOf score)) :=
      .ifElse .none (.event _)
    refine ⟨_, exec_sampleTimerExpiry hr htimer, hevents.lnk _, ?_, hevents.sameEvents ⟨rfl, rfl, rfl, rfl⟩, fun k hk => ?_,
      hevents.contexts _, hevents.dests _, hevents.lists _, hevents.sweep _, hevents.clk _, hevents.rte _, hevents.sac _,
      hevents.pending _⟩
    · exact (hevents.group? _ g).trans (setGroup_group?_same s g _ (lt_of_group? hr))
    · exact (hevents.group? _ k).trans (setGroup_group?_other s g k _ hk)
  case mark =>
    have hevent := Raises.event (.farMarkExpired i d.mark)
    refine ⟨_, exec_markExpiry hd htimer, hevent.lnk _, ?_, fun k hk => ?_, hevent.ctb _, hevent.contexts _,
      ⟨hevent.lists _, (congrArg Rse.slots (raise_rse_of_untriggered rfl)).trans rfl, hevent.sweep _⟩,
      hevent.sameEvents ⟨rfl, rfl, rfl, rfl⟩, hevent.clk _, hevent.rte _, hevent.sac _, hevent.pending _⟩
    · exact (dest?_congr (hevent.dests _) i).trans (setDest_dest?_same s i _)
    · exact (dest?_congr (hevent.dests _) k).trans (setDest_otherDests s i _ k hk)

end Sys2Proof.Proofs.Timers

/-! ## TRAFFIC_RESTART: the start of a sweep and its completion -/

namespace Sys2Proof.Proofs.Restart

open Sys2Proof.Machine Sys2Proof.Proofs.Timers Sys2Proof.Proofs.Slots

theorem exec_trafficRestart {s : State} {h : Handed} (ht : Taken s .trafficRestart h) :
    exec .trafficRestart s = .next ((s.withHanded h).startSweep h) := by
  obtain ⟨htakes, hsweeping⟩ := ht
  show execTrafficRestart s = _
  simp [execTrafficRestart, htakes, hsweeping]

theorem exec_sweepCompletion {s : State} {w : Sweep} (hw : s.rse.sweep = some w) (hlast : 4096 ≤ w.next) (hhanded : s.lnk.handed = none) :
    exec .sweepCompletion s = .next (s.completeSweep w) := by
  have hdone : ¬ w.next < Config.contexts := by
    rw [Config.contexts]
    omega
  show execSweepCompletion s = _
  simp [execSweepCompletion, hw, hhanded, hdone]

/-- What RESTART_DONE leaves of the emptied notice queue (R176, R180). -/
theorem restartValues_raise {s : State} (hphase : s.lnk.phase = .running) (w : Sweep) :
    s.restartValues.raise (.restartDone w.rated w.freed) = { s.restartValues with enu := { s.enu with notices :=
      if (s.enu.config .restartDone).enable = true ∧ (s.enu.config .restartDone).route ≠ .trigger
        then [⟨.restartDone w.rated w.freed, 1, s.clk.count⟩] else [] } } := by
  have hconfig : s.restartValues.enu.config (Event.restartDone w.rated w.freed).kind = s.enu.config .restartDone := rfl
  have hrunning : s.restartValues.lnk.phase ≠ .clearing := by
    show s.lnk.phase ≠ .clearing
    rw [hphase]
    decide
  rw [raise_eq_note rfl, ← hconfig]
  split_ifs with hmade
  · obtain ⟨henable, hroute⟩ := hmade
    exact (note_made hrunning henable hroute).trans rfl
  · refine (note_unmade ?_).trans rfl
    by_contra hkept
    simp only [not_or] at hkept
    obtain ⟨-, henable, hroute⟩ := hkept
    exact hmade ⟨Bool.of_not_eq_false henable, hroute⟩

/-- Settles O57: the start writes the sweep and the timers, the completion the restart values, its one event and the reply. -/
theorem trafficRestartBeginsAndEnds : Obligations.TrafficRestartBeginsAndEnds := by
  refine ⟨fun s h ht => ?begin, fun s w hw hlast hhanded hphase => ?complete⟩
  case begin =>
    exact ⟨_, exec_trafficRestart ht, rfl, rfl, fun g => (mapGroups_group? _ _ g).trans rfl, rfl, rfl, rfl, rfl, rfl⟩
  case complete =>
    refine ⟨_, exec_sweepCompletion hw hlast hhanded, ?_⟩
    rw [State.completeSweep, restartValues_raise hphase]
    refine ⟨rfl, rfl, rfl, rfl, fun g => ?groups, fun i => ?dests, fun i => ?slots, ?notices, rfl, rfl, rfl, rfl⟩
    case groups =>
      refine (mapGroups_group? s Group.swept g).trans (congrArg (Option.map · (s.group? g)) ?_)
      funext r
      simp only [Group.swept, beq_iff_eq]
      rfl
    case dests => exact tget_tmap s.rse.dests i Dest.swept
    case slots =>
      show (s.rse.slots.map Slot.swept)[i] = _
      simp [Slot.swept]
    case notices =>
      cases hroute : (s.enu.config .restartDone).route <;> simp

end Sys2Proof.Proofs.Restart

/-! ## QUERY: the contents of an object, and the tallies its clear flag names (R200) -/

namespace Sys2Proof.Proofs.Queries

open Sys2Proof.Machine Sys2Proof.Proofs.Circuits Sys2Proof.Proofs.Requests Sys2Proof.Proofs.ChargeRecords
open Sys2Proof.Proofs.TrunkGroups (changeGroup_group?_same changeGroup_otherGroups changeGroup_place_sameOutsideCtb)
open Sys2Proof.Proofs.Tariffs (carrierIndex_succ)

/-- QUERY is answered during a sweep too (R46). -/
theorem exec_query {s : State} {h : Handed} {target number member clear : Nat} (ht : s.takes? (.query target number member clear) = some h) :
    exec (.query target number member clear) s = .next ((query target number member clear (s.withHanded h)).2.place 0x48 h.tag
      (query target number member clear (s.withHanded h)).1) :=
  congrArg _ (serve_inSweep ht 0x48 fun _ => query target number member clear)

/-- A QUERY that changes nothing but its reply. -/
theorem exec_query_unchanged {s : State} {h : Handed} {target number member clear : Nat} {b : List Byte}
    (ht : s.takes? (.query target number member clear) = some h)
    (hquery : query target number member clear (s.withHanded h) = (.accepted (.contents b), s.withHanded h)) :
    exec (.query target number member clear) s = .next { s with lnk := s.lnk.answered 0x48 h.tag (.accepted (.contents b)) } := by
  rw [exec_query ht, hquery]
  rfl

theorem queryPart_eq {clear : Nat} (hclear : clear ≤ 1) (s : State) :
    queryPart clear s = (.accepted (.contents (partContents s)),
      if clear = 1 then { s with lnk := { s.lnk with badCheck := 0, malformed := 0, overruns := 0 } } else s) := by
  simp [queryPart, decodeFlag_of_le hclear, contents]

theorem queryGroup_eq {number clear : Nat} (hnumber : number ≤ 255) (hclear : clear ≤ 1) (s : State) :
    queryGroup number clear s = (.accepted (.contents (groupContents (s.group? number))),
      if clear = 1 then s.countTally number (fun _ => Tallies.zero) else s) := by
  have hvalid : ¬ 255 < number := by omega
  simp [queryGroup, hvalid, decodeFlag_of_le hclear, contents]

theorem queryCircuit_eq {s : State} {g m : Nat} {c : Circuit} (hc : s.circuit? g m = some c) :
    queryCircuit g m s = .accepted (.contents (circuitContents c)) := by
  obtain ⟨r, hr, hm⟩ := circuit?_eq_some_iff.1 hc
  simp [queryCircuit, hr, hm, contents]

theorem countTally_group? (s : State) (g : Nat) (f : Tallies → Tallies) :
    (s.countTally g f).group? g = (s.group? g).map fun r => { r with tallies := f r.tallies } := by
  cases hr : s.group? g with
  | none =>
    rw [State.countTally, changeGroup_undefined hr]
    exact hr
  | some r => exact changeGroup_group?_same hr _

/-- Settles O56, by the target. -/
theorem queryChangesOnlyTallies : Obligations.QueryChangesOnlyTallies := by
  intro s h target number member clear ht reply
  refine ⟨?part, ?group, ?circuit, ?context, ?carrier, ?dest, ?slot⟩
  case part =>
    rintro rfl hclear
    have hquery : query 0 number member clear (s.withHanded h) = queryPart clear (s.withHanded h) := rfl
    rw [exec_query ht, hquery, queryPart_eq hclear]
    split_ifs <;> rfl
  case group =>
    rintro rfl hnumber hclear
    have hquery : query 1 number member clear (s.withHanded h) = queryGroup number clear (s.withHanded h) := rfl
    refine ⟨_, exec_query ht, ?_⟩
    rw [hquery, queryGroup_eq hnumber hclear]
    split_ifs with hone
    · exact ⟨place_answered (State.countTally_lnk (s.withHanded h) number _) h.tag, countTally_group? (s.withHanded h) number _,
        changeGroup_otherGroups (s.withHanded h) number _, changeGroup_place_sameOutsideCtb (s.withHanded h) number _ _ _ _⟩
    · exact ⟨rfl, Option.map_id'.symm, fun _ _ => rfl, rfl, rfl, rfl, rfl, rfl, rfl⟩
  case circuit =>
    rintro c rfl hc
    have hquery : query 2 number member clear (s.withHanded h) = (queryCircuit number member (s.withHanded h), s.withHanded h) := rfl
    exact exec_query_unchanged ht (hquery.trans (congrArg (·, s.withHanded h) (queryCircuit_eq hc)))
  case context =>
    rintro rfl hnumber
    refine exec_query_unchanged ht (congrArg (·, s.withHanded h) (if_neg ?_))
    omega
  case carrier =>
    rintro i rfl rfl
    refine exec_query_unchanged ht ?_
    simp [query, decodeTarget, contents]
  case dest =>
    rintro rfl hnumber
    refine exec_query_unchanged ht (congrArg (·, s.withHanded h) (if_neg ?_))
    omega
  case slot =>
    rintro i rfl rfl
    exact exec_query_unchanged ht (congrArg (·, s.withHanded h) (dif_pos i.isLt))

end Sys2Proof.Proofs.Queries


/-! ## Selection: the match of the called digits, the five gates, and the walk over a route list (R52, R58 to R66) -/

namespace Sys2Proof.Proofs.Selections

open Sys2Proof.Machine Sys2Proof.Proofs.Circuits Sys2Proof.Proofs.Requests Sys2Proof.Proofs.Steps Sys2Proof.Proofs.ChargeRecords

/-! ### The longest match (R52) -/

/-- The entry is one of the table, its digits begin the called ones, and no longer such run of digits stands in the table. -/
def LongestIn (called : List Nat) (t : Table Dest) (x : Nat × Dest) : Prop :=
  x ∈ t ∧ x.2.digits <+: called ∧ ∀ e ∈ t, e.2.digits <+: called → e.2.digits.length ≤ x.2.digits.length

theorem matchDest_spec (called : List Nat) (t : Table Dest) :
    (matchDest called t = none ∧ ∀ e ∈ t, ¬ e.2.digits <+: called) ∨
      ∃ x, matchDest called t = some x ∧ LongestIn called t x := by
  induction t with
  | nil => exact .inl ⟨rfl, fun e he => absurd he List.not_mem_nil⟩
  | cons y t ih =>
    obtain ⟨i, d⟩ := y
    rcases ih with ⟨hnone, hno⟩ | ⟨x, hx, hmem, hprefix, hmax⟩
    · -- No later entry matches: this one does, or none.
      by_cases hd : d.digits <+: called
      · refine .inr ⟨(i, d), by simp [matchDest, hnone, hd], List.mem_cons_self, hd, fun e he hpre => ?_⟩
        rcases List.mem_cons.1 he with rfl | he
        · exact le_rfl
        · exact absurd hpre (hno e he)
      · exact .inl ⟨by simp [matchDest, hnone, hd], List.forall_mem_cons.2 ⟨hd, hno⟩⟩
    · -- A later entry matches: the longer of the two stands.
      by_cases hd : d.digits <+: called ∧ x.2.digits.length < d.digits.length
      · obtain ⟨hpre, hlonger⟩ := hd
        refine .inr ⟨(i, d), by simp [matchDest, hx, hpre, hlonger], List.mem_cons_self, hpre, fun e he hpre' => ?_⟩
        rcases List.mem_cons.1 he with rfl | he
        · exact le_rfl
        · exact (hmax e he hpre').trans hlonger.le
      · refine .inr ⟨x, by simpa [matchDest, hx] using fun h h' => absurd ⟨h, h'⟩ hd, List.mem_cons_of_mem _ hmem, hprefix,
          fun e he hpre => ?_⟩
        rcases List.mem_cons.1 he with rfl | he
        · exact Nat.le_of_not_lt fun hlt => hd ⟨hpre, hlt⟩
        · exact hmax e he hpre

/-- Settles O27, by the induction on the table. -/
theorem calledDigitsMatchLongestPrefix : Obligations.CalledDigitsMatchLongestPrefix := by
  intro called t
  rcases matchDest_spec called t with ⟨hnone, hno⟩ | ⟨x, hx, hlongest⟩
  · exact ⟨fun i d h => by simp [hnone] at h, fun _ => hno, fun _ => hnone⟩
  · obtain ⟨hmem, hprefix, -⟩ := id hlongest
    exact ⟨fun i d h => by cases hx.symm.trans h; exact hlongest,
      fun h => by simp [hx] at h, fun h => absurd hprefix (h x hmem)⟩

/-! ### The gates (R59 to R62) -/

section Gates
variable {s t : State} {n idx : Nat} {p : Priority} {tried : List (Nat × Nat)} {e : RouteEntry} {why : Skip} {r : Group} {m : Nat}

/-- The gates read the groups and SAC. -/
theorem gateReason_congr (hctb : t.ctb = s.ctb) (hsac : t.sac = s.sac) (p : Priority) (idx : Nat) (e : RouteEntry) :
    gateReason t p idx e = gateReason s p idx e := by
  cases s
  cases t
  cases hctb
  cases hsac
  rfl

theorem gateReasons_congr (hctb : t.ctb = s.ctb) (hsac : t.sac = s.sac) (p : Priority) (idx : Nat) (es : List RouteEntry) :
    gateReasons t p idx es = gateReasons s p idx es := by
  simp only [gateReasons, gateReason_congr hctb hsac]

theorem bypassOver_congr (hctb : t.ctb = s.ctb) (hsac : t.sac = s.sac) (p : Priority) (idx : Nat) (es : List RouteEntry) (before : Nat) :
    bypassOver t p idx es before = bypassOver s p idx es before := by
  simp only [bypassOver, gateReason_congr hctb hsac, group?_congr hctb]

theorem not_inRoute_iff : (!r.inRoute) = true ↔ r.direction = .incoming ∨ r.state ≠ .inService := by
  rw [Bool.not_eq_true', ← Bool.not_eq_true, inRoute_iff, not_and_or, not_not]

theorem not_standingPasses_iff {st : Standing} {idx : Nat} :
    (!standingPasses st (idx == 0)) = true ↔ st = .suspended ∨ st = .watch ∧ idx ≠ 0 := by
  cases st <;> simp [standingPasses]

theorem recordBarred_iff {k : Nat} :
    s.recordBarred k = true ↔ s.guards k = true ∧ 1024 ≤ s.sac.records.length + s.sac.guarded := by
  simp [State.recordBarred, Sac.hasRoom, Config.records]

/-- The first failing gate, by the tests that the examination makes. -/
theorem gateReason_eq (hr : s.group? e.group = some r) (p : Priority) (idx : Nat) :
    gateReason s p idx e =
      if (!r.inRoute) = true then some .groupState
      else if (!standingPasses (s.standing r.carrier) (idx == 0)) = true then some .standing
      else if s.recordBarred r.carrier = true then some .recordFull
      else if (!reservePasses (reserveFor r.level p (idx == 0) r.reservation) r.idle) = true then some .congestion else none := by
  simp only [not_inRoute_iff, not_standingPasses_iff, recordBarred_iff, gateReason, hr]
  cases reserveFor r.level p (idx == 0) r.reservation with
  | none => rfl
  | some k => by_cases hk : k = 0 ∨ k < r.idle <;> simp [reservePasses, hk]

/-- The state that a skip at a gate leaves: for CONGESTION the bypass level raised (R70). -/
def afterSkip (n : Nat) (e : RouteEntry) (why : Skip) (s : State) : State :=
  if why = .congestion then
    match s.group? e.group with
    | some r => s.raiseBypass n r.level
    | none => s
  else s

/-- An entry that a gate refuses is skipped for that gate's reason. -/
theorem examine_skipped (n : Nat) (tried : List (Nat × Nat)) (h : gateReason s p idx e = some why) :
    s.examine n idx p tried e = (.inl why, afterSkip n e why s) := by
  unfold State.examine
  cases hr : s.group? e.group with
  | none =>
    have hundefined : gateReason s p idx e = some .undefined := by rw [gateReason, hr]
    cases hundefined.symm.trans h
    rfl
  | some r =>
    rw [gateReason_eq hr] at h
    dsimp only
    split_ifs at h ⊢ <;> cases h
    all_goals simp [afterSkip, hr]

/-- An entry that passes the gates is hunted. -/
theorem examine_hunted (n : Nat) (tried : List (Nat × Nat)) (hr : s.group? e.group = some r) (h : gateReason s p idx e = none) :
    s.examine n idx p tried e =
      match s.hunt e.group r n tried with
      | (some m, s) => (.inr m, s.grant n idx e r m)
      | (none, s) => (.inl .noIdle, s.overflow n e.group r) := by
  unfold State.examine
  rw [hr]
  rw [gateReason_eq hr] at h
  dsimp only
  split_ifs at h ⊢
  rfl

end Gates

/-! ### Skips in a row (R66, R70) -/

/-- Two states that differ at most in one context, if it holds a call, and how that differs. -/
structure ContextChanged (n : Nat) (f : Context → Context) (s u : State) : Prop where
  only : u = { s with rse := { s.rse with contexts := u.rse.contexts } }
  others : OtherContexts n s u
  own : u.context? n = (s.context? n).map f

theorem changeContext_changed (s : State) (n : Nat) (f : Context → Context) : ContextChanged n f s (s.changeContext n f) := by
  unfold State.changeContext
  cases hn : s.context? n with
  | none => exact ⟨rfl, fun _ _ => rfl, by rw [hn]; rfl⟩
  | some x => exact ⟨rfl, fun k hk => setContext_context?_other s n k _ hk, by rw [setContext_context?_same, hn]; rfl⟩

namespace ContextChanged
variable {s u v : State} {n : Nat} {f f' : Context → Context} (h : ContextChanged n f s u)
include h

theorem ctb : u.ctb = s.ctb := by rw [h.only]

theorem sac : u.sac = s.sac := by rw [h.only]

theorem lnk : u.lnk = s.lnk := by rw [h.only]

theorem dests : u.rse.dests = s.rse.dests := by rw [h.only]

theorem lists : u.rse.lists = s.rse.lists := by rw [h.only]

theorem slots : u.rse.slots = s.rse.slots := by rw [h.only]

theorem sweep : u.rse.sweep = s.rse.sweep := by rw [h.only]

theorem clk : u.clk = s.clk := by rw [h.only]

theorem rte : u.rte = s.rte := by rw [h.only]

theorem enu : u.enu = s.enu := by rw [h.only]

theorem pending : u.pending = s.pending := by rw [h.only]

theorem trans (h' : ContextChanged n f' u v) : ContextChanged n (fun x => f' (f x)) s v := by
  refine ⟨?_, fun k hk => (h'.others k hk).trans (h.others k hk), ?_⟩
  · rw [h'.only, h.only]
  · rw [h'.own, h.own, Option.map_map]
    rfl

end ContextChanged

/-- Two states that differ at most in the bypass level of the context that walks. -/
abbrev Bypassed (n : Nat) (f : Nat → Nat) : State → State → Prop :=
  ContextChanged n fun x => { x with bypass := f x.bypass }

section Skips
variable {s u v : State} {n idx : Nat} {p : Priority} {tried : List (Nat × Nat)} {e : RouteEntry} {why : Skip} {r : Group}
  {f f' : Nat → Nat}

theorem bypassed_same (hf : ∀ b, f b = b) (s : State) : Bypassed n f s s :=
  ⟨rfl, fun _ _ => rfl, by simp only [hf]; exact Option.map_id'.symm⟩

theorem bypassed_raiseBypass (n level : Nat) (s : State) : Bypassed n (max · level) s (s.raiseBypass n level) :=
  changeContext_changed s n _

theorem afterSkip_bypassed (n : Nat) (h : gateReason s p idx e = some why) :
    Bypassed n (bypassOver s p idx [e]) s (afterSkip n e why s) := by
  by_cases hcongestion : why = .congestion
  · subst hcongestion
    cases hr : s.group? e.group with
    | none => simp [gateReason, hr] at h
    | some r =>
      have hlevel : bypassOver s p idx [e] = (max · r.level) := by
        funext b
        simp [bypassOver, h, hr]
      rw [hlevel, afterSkip, if_pos rfl, hr]
      exact bypassed_raiseBypass n r.level s
  · rw [afterSkip, if_neg hcongestion]
    exact bypassed_same (fun b => by simp [bypassOver, h, hcongestion]) s

/-- A gate that refuses an entry lets the walk go on with the next one (R64). -/
theorem walk_skip (n : Nat) (tried : List (Nat × Nat)) (rest : List RouteEntry) (k : Skips) (h : gateReason s p idx e = some why) :
    ∃ u, s.walk n p tried idx (e :: rest) k = u.walk n p tried (idx + 1) rest (k.count why) ∧
      Bypassed n (bypassOver s p idx [e]) s u := by
  refine ⟨afterSkip n e why s, ?_, afterSkip_bypassed n h⟩
  rw [State.walk, examine_skipped n tried h]

/-- The counts after a run of reasons. -/
def countedOver (k : Skips) (rs : List (Option Skip)) : Skips :=
  rs.foldl (fun k why => match why with | some w => k.count w | none => k) k

theorem countedOver_eq (k : Skips) (rs : List (Option Skip)) :
    countedOver k rs = ⟨k.undefined + rs.count (some .undefined), k.groupState + rs.count (some .groupState),
      k.standing + rs.count (some .standing), k.recordFull + rs.count (some .recordFull),
      k.congestion + rs.count (some .congestion), k.noIdle + rs.count (some .noIdle)⟩ := by
  induction rs generalizing k with
  | nil => rfl
  | cons why rs ih =>
    refine (ih _).trans ?_
    cases why with
    | none => simp
    | some w => cases w <;> simp [Skips.count] <;> omega

theorem countedOver_zero (rs : List (Option Skip)) : countedOver Skips.zero rs = countsOf rs := by
  simp [countedOver_eq, countsOf, Skips.zero]

theorem bypassOver_cons (s : State) (p : Priority) (idx : Nat) (e : RouteEntry) (es : List RouteEntry) (b : Nat) :
    bypassOver s p idx (e :: es) b = bypassOver s p (idx + 1) es (bypassOver s p idx [e] b) := by
  simp only [bypassOver, List.zipIdx_cons, List.zipIdx_nil, List.filterMap_cons, List.filterMap_nil]
  split <;> rfl

/-- A run of entries that the gates refuse is passed over (R64, R66, R70). -/
theorem walk_skips (n : Nat) (tried : List (Nat × Nat)) (rest : List RouteEntry) {skipped : List RouteEntry} (k : Skips)
    (h : none ∉ gateReasons s p idx skipped) :
    ∃ u, s.walk n p tried idx (skipped ++ rest) k =
        u.walk n p tried (idx + skipped.length) rest (countedOver k (gateReasons s p idx skipped)) ∧
      Bypassed n (bypassOver s p idx skipped) s u := by
  induction skipped generalizing s idx k with
  | nil => exact ⟨s, rfl, bypassed_same (fun _ => rfl) s⟩
  | cons e es ih =>
    have hreasons : gateReasons s p idx (e :: es) = gateReason s p idx e :: gateReasons s p (idx + 1) es := by
      simp [gateReasons]
    rw [hreasons, List.mem_cons, not_or] at h
    obtain ⟨hfirst, hrest⟩ := h
    obtain ⟨why, hwhy⟩ := Option.ne_none_iff_exists'.1 (Ne.symm hfirst)
    obtain ⟨u, hu, hskip⟩ := walk_skip n tried (es ++ rest) k hwhy
    rw [← gateReasons_congr hskip.ctb hskip.sac] at hrest
    obtain ⟨v, hv, hskips⟩ := ih (k.count why) hrest
    have hbypass : bypassOver u p (idx + 1) es = bypassOver s p (idx + 1) es :=
      funext (bypassOver_congr hskip.ctb hskip.sac p (idx + 1) es)
    refine ⟨v, ?_, ?_⟩
    · rw [List.cons_append, hu, hv, hreasons, hwhy, gateReasons_congr hskip.ctb hskip.sac, List.length_cons,
        Nat.add_assoc, Nat.add_comm 1]
      rfl
    · have hboth := hskip.trans hskips
      simp only [hbypass] at hboth
      rwa [show bypassOver s p idx (e :: es) = fun b => bypassOver s p (idx + 1) es (bypassOver s p idx [e] b) from
        funext (bypassOver_cons s p idx e es)]

end Skips

/-! ### The hunt (R9, R10, R63, R65, R75) -/

section Hunts
variable {s : State} {n idx m : Nat} {p : Priority} {tried : List (Nat × Nat)} {e : RouteEntry} {r : Group}

/-- The members a hunt may take. -/
theorem eligible_eq (r : Group) (g : Nat) (tried : List (Nat × Nat)) :
    r.eligible g tried = fun j => (r.members[j]?.any fun c => c.state == .idle) && !tried.contains (g, j) := by
  funext j
  unfold Group.eligible
  cases r.members[j]? <;> rfl

theorem eligible_nil (r : Group) (g : Nat) : r.eligible g [] = fun j => r.members[j]?.any fun c => c.state == .idle := by
  simp [eligible_eq]

theorem lt_size_of_find {g : Nat} (h : r.huntSequence.find? (r.eligible g tried) = some m) : m < r.size := by
  have helig := List.find?_some h
  unfold Group.eligible at helig
  cases hm : r.members[m]? with
  | none => simp [hm] at helig
  | some c => exact (List.getElem?_eq_some_iff.1 hm).1

theorem granted_eq (n : Nat) (hm : m < r.size) :
    r.granted n m = { ({ r with tallies := { r.tallies with attempts := tallyUp r.tallies.attempts } } : Group).setCircuit m
      (Circuit.seized r.seizeTimeout n) with rotate := r.rotated m } := by
  have hrotate : (m + 1) % r.size = if m + 1 = r.size then 0 else m + 1 := by
    split_ifs with hlast
    · rw [hlast, Nat.mod_self]
    · exact Nat.mod_eq_of_lt (by omega)
  simp only [Group.granted, Group.rotated, hrotate]
  rfl

theorem hunt_found (n : Nat) (h : r.huntSequence.find? (r.eligible e.group tried) = some m) (s : State) :
    s.hunt e.group r n tried = (some m, s.setGroup e.group (r.granted n m)) := by
  rw [granted_eq n (lt_size_of_find h), State.hunt]
  dsimp only
  rw [h]

theorem hunt_nothing (n : Nat) (h : r.huntSequence.find? (r.eligible e.group tried) = none) (s : State) :
    s.hunt e.group r n tried =
      (none, s.setGroup e.group { r with tallies := { r.tallies with attempts := tallyUp r.tallies.attempts } }) := by
  rw [State.hunt]
  dsimp only
  rw [h]

/-- The context that a grant leaves (R35, R65). -/
def grantedContext (idx : Nat) (e : RouteEntry) (r : Group) (m : Nat) (guarded : Bool) (c : Context) : Context :=
  { c with
    state := .pending
    outLeg := some ⟨e.group, m, idx, e.band, r.carrier, guarded⟩
    progress := c.progress.map fun y => { y with used := y.used + 1, tried := y.tried ++ [(e.group, m)], resume := idx }
    haltCause := none }

theorem admitLeg_eq (s : State) (b : Bool) : s.admitLeg b = { s with sac := s.sac.admitted b } := by
  cases b <;> rfl

/-- The state with the circuit seized and the record place taken (R9, R160). -/
def seizedFor (n : Nat) (e : RouteEntry) (r : Group) (m : Nat) (s : State) : State :=
  { s.setGroup e.group (r.granted n m) with sac := s.sac.admitted (s.guards r.carrier) }

/-- A hunt that takes a member ends the walk: the circuit seized, the place taken, the context PENDING. -/
theorem walk_granted (n : Nat) (rest : List RouteEntry) (k : Skips) (hr : s.group? e.group = some r)
    (hgates : gateReason s p idx e = none) (hfind : r.huntSequence.find? (r.eligible e.group tried) = some m) :
    ∃ u, s.walk n p tried idx (e :: rest) k = (.granted e.group m idx, u) ∧
      ContextChanged n (grantedContext idx e r m (s.guards r.carrier)) (seizedFor n e r m s) u := by
  refine ⟨(s.setGroup e.group (r.granted n m)).grant n idx e r m, ?_, ?_⟩
  · rw [State.walk, examine_hunted n tried hr hgates, hunt_found n hfind]
  · rw [State.grant, admitLeg_eq]
    exact changeContext_changed _ n _

theorem raiseBypass_setGroup (s : State) (g : Nat) (r : Group) (n level : Nat) :
    (s.setGroup g r).raiseBypass n level = (s.raiseBypass n level).setGroup g r := by
  unfold State.raiseBypass State.changeContext
  rw [show (s.setGroup g r).context? n = s.context? n from rfl]
  cases s.context? n <;> rfl

theorem overflow_eq (n : Nat) (hr : s.group? e.group = some r) :
    (s.setGroup e.group { r with tallies := { r.tallies with attempts := tallyUp r.tallies.attempts } }).overflow n e.group r =
      State.overflowEvents e.group r ((s.setGroup e.group r.overflowed).raiseBypass n r.level) := by
  have hg := lt_of_group? hr
  unfold State.overflow
  rw [raiseBypass_setGroup, countTally_eq (setGroup_group?_same _ e.group _ hg), setScore_eq (setGroup_group?_same _ e.group _ hg)]
  simp only [setGroup_setGroup, raiseBypass_setGroup]
  rfl

/-- A hunt that takes none goes on with the next entry: the bypass level raised, attempts and overflows counted, the score moved
with its event. -/
theorem walk_noIdle (n : Nat) (rest : List RouteEntry) (k : Skips) (hr : s.group? e.group = some r)
    (hgates : gateReason s p idx e = none) (hfind : r.huntSequence.find? (r.eligible e.group tried) = none) :
    ∃ v, s.walk n p tried idx (e :: rest) k =
        (v.overflowEvents e.group r).walk n p tried (idx + 1) rest { k with noIdle := k.noIdle + 1 } ∧
      Bypassed n (max · r.level) (s.setGroup e.group r.overflowed) v := by
  refine ⟨(s.setGroup e.group r.overflowed).raiseBypass n r.level, ?_, bypassed_raiseBypass n r.level _⟩
  rw [State.walk, examine_hunted n tried hr hgates, hunt_nothing n hfind]
  dsimp only
  rw [overflow_eq n hr]
  rfl

end Hunts

end Sys2Proof.Proofs.Selections


/-! ## ROUTE and CONTINUE: the outcomes of a selection (R34, R35, R39, R56, R57, R66) -/

namespace Sys2Proof.Proofs.Selections

open Sys2Proof.Machine Sys2Proof.Proofs.Circuits Sys2Proof.Proofs.Requests Sys2Proof.Proofs.Steps Sys2Proof.Proofs.ChargeRecords

/-! ### What a selection leaves alone -/

/-- What a selection for context `n` under the destination at place `i` has left so far, the groups, SAC and the events apart: the
context is `x`, the destination `d`, and nothing else has changed. -/
structure Beside (s : State) (h : Handed) (n : Nat) (x : Context) (i : Nat) (d : Dest) (u : State) : Prop where
  lnk : u.lnk = { s.lnk with handed := some h }
  own : u.context? n = some x
  others : OtherContexts n s u
  dest : u.dest? i = some d
  otherDests : OtherDests i s u
  lists : u.rse.lists = s.rse.lists
  sweep : u.rse.sweep = s.rse.sweep
  clk : u.clk = s.clk
  rte : u.rte = s.rte
  pending : u.pending = s.pending

section Beside
variable {s u v : State} {h : Handed} {n i : Nat} {x : Context} {d : Dest}

theorem Beside.congr (hu : Beside s h n x i d u) (hlnk : v.lnk = u.lnk) (hrse : v.rse = u.rse) (hclk : v.clk = u.clk)
    (hrte : v.rte = u.rte) (hpending : v.pending = u.pending) : Beside s h n x i d v where
  lnk := hlnk.trans hu.lnk
  own := (context?_congr (by rw [hrse]) n).trans hu.own
  others k hk := (context?_congr (by rw [hrse]) k).trans (hu.others k hk)
  dest := (dest?_congr (by rw [hrse]) i).trans hu.dest
  otherDests k hk := (dest?_congr (by rw [hrse]) k).trans (hu.otherDests k hk)
  lists := by rw [hrse, hu.lists]
  sweep := by rw [hrse, hu.sweep]
  clk := hclk.trans hu.clk
  rte := hrte.trans hu.rte
  pending := hpending.trans hu.pending

theorem Beside.changed (hu : Beside s h n x i d u) {f : Context → Context} (hc : ContextChanged n f u v) :
    Beside s h n (f x) i d v where
  lnk := hc.lnk.trans hu.lnk
  own := by rw [hc.own, hu.own]; rfl
  others k hk := (hc.others k hk).trans (hu.others k hk)
  dest := (dest?_congr hc.dests i).trans hu.dest
  otherDests k hk := (dest?_congr hc.dests k).trans (hu.otherDests k hk)
  lists := hc.lists.trans hu.lists
  sweep := hc.sweep.trans hu.sweep
  clk := hc.clk.trans hu.clk
  rte := hc.rte.trans hu.rte
  pending := hc.pending.trans hu.pending

theorem Beside.raises (hu : Beside s h n x i d u) {f : State → State} (hf : Raises f) : Beside s h n x i d (f u) where
  lnk := (hf.lnk u).trans hu.lnk
  own := (context?_congr (hf.contexts u) n).trans hu.own
  others k hk := (context?_congr (hf.contexts u) k).trans (hu.others k hk)
  dest := (dest?_congr (hf.dests u) i).trans hu.dest
  otherDests k hk := (dest?_congr (hf.dests u) k).trans (hu.otherDests k hk)
  lists := (hf.lists u).trans hu.lists
  sweep := (hf.sweep u).trans hu.sweep
  clk := (hf.clk u).trans hu.clk
  rte := (hf.rte u).trans hu.rte
  pending := (hf.pending u).trans hu.pending

theorem Beside.answered (hu : Beside s h n x i d u) (code : Byte) (a : Answer) :
    (u.place code h.tag a).lnk = s.lnk.answered code h.tag a := place_answered hu.lnk h.tag

end Beside

/-! ### The end of a walk -/

/-- A selection's outcome is applied to its context, and the request answered with it (R35). -/
def ended (code : Byte) (h : Handed) (n : Nat) (w : Selection × State) : State :=
  (w.2.spend n w.1).place code h.tag (.selection none w.1)

/-- A context after a selection without a grant. -/
def spentContext (c : Context) : Context := { c with state := .spent, haltCause := none }

theorem spend_changed {o : Selection} (ho : o.isGrant = false) (u : State) (n : Nat) :
    ContextChanged n spentContext u (u.spend n o) := by
  rw [State.spend, ho]
  exact changeContext_changed u n _

section Ends
variable {s S : State} {h : Handed} {n i l : Nat} {x : Context} {d : Dest} {p : Priority} {y : Progress} {skipped rest : List RouteEntry}
  {e : RouteEntry} {r : Group} {m : Nat} (code : Byte)

/-- A selection that ends without a grant in a state where only the context and the destination have changed. -/
theorem ended_ungranted (hS : Beside s h n x i d S) (hctb : S.ctb = s.ctb) (hsac : S.sac = s.sac) (hevents : SameEvents s S)
    {o : Selection} (ho : o.isGrant = false) :
    let t := ended code h n (o, S)
    t.lnk = s.lnk.answered code h.tag (.selection none o) ∧ t.context? n = some (spentContext x) ∧
      OtherContexts n s t ∧ t.ctb = s.ctb ∧ t.dest? i = some d ∧ OtherDests i s t ∧ t.sac = s.sac ∧ SameRoutes s t ∧
      SameServices s t := by
  have hspend := spend_changed ho S n
  have hend := hS.changed hspend
  exact ⟨hend.answered code _, hend.own, hend.others, hspend.ctb.trans hctb, hend.dest, hend.otherDests, hspend.sac.trans hsac,
    ⟨hend.lists, hspend.slots.trans hevents.2, hend.sweep⟩, hend.clk, hend.rte,
    hspend.enu.trans hevents.1, hend.pending⟩

/-- A selection that ends before the far-mark gate. -/
theorem ended_unrouted {f : Context → Context} (hx : s.context? n = some x) (hS : ContextChanged n f (s.withHanded h) S)
    {o : Selection} (ho : o.isGrant = false) :
    let t := ended code h n (o, S)
    t.lnk = s.lnk.answered code h.tag (.selection none o) ∧ t.context? n = some (spentContext (f x)) ∧ OtherContexts n s t ∧
      t.ctb = s.ctb ∧ t.rse.dests = s.rse.dests ∧ t.sac = s.sac ∧ SameRoutes s t ∧ SameServices s t := by
  have hspend := hS.trans (spend_changed ho S n)
  refine ⟨place_answered hspend.lnk h.tag, ?_, hspend.others, hspend.ctb, hspend.dests, hspend.sac,
    ⟨hspend.lists, hspend.slots, hspend.sweep⟩, hspend.clk, hspend.rte, hspend.enu, hspend.pending⟩
  refine hspend.own.trans ?_
  rw [show (s.withHanded h).context? n = some x from hx]
  rfl

/-- The walk over a list's entries from the resume index on. -/
theorem walkList_eq (hlists : S.rse.lists = s.rse.lists) (n l : Nat) (p : Priority) (y : Progress) :
    S.walkList n l p y = S.walk n p y.tried y.resume ((s.list l).drop y.resume) Skips.zero := by
  unfold State.walkList State.list
  rw [hlists]

/-- The skips before the entry that decides a walk. -/
theorem walkList_skips (hS : Beside s h n x i d S) (hctb : S.ctb = s.ctb) (hsac : S.sac = s.sac)
    (hlist : (s.list l).drop y.resume = skipped ++ rest) (hskips : none ∉ gateReasons s p y.resume skipped) :
    ∃ u, S.walkList n l p y = u.walk n p y.tried (y.resume + skipped.length) rest (countsOf (gateReasons s p y.resume skipped)) ∧
      Beside s h n { x with bypass := bypassOver s p y.resume skipped x.bypass } i d u ∧ u.ctb = s.ctb ∧ u.sac = s.sac ∧
      SameEvents S u := by
  rw [← gateReasons_congr hctb hsac] at hskips
  obtain ⟨u, hu, hbypassed⟩ := walk_skips n y.tried rest Skips.zero hskips
  refine ⟨u, ?_, ?_, hbypassed.ctb.trans hctb, hbypassed.sac.trans hsac, ?_⟩
  · rw [walkList_eq hS.lists, hlist, hu, countedOver_zero, gateReasons_congr hctb hsac]
  · have hbeside := hS.changed hbypassed
    simpa only [bypassOver_congr hctb hsac] using hbeside
  · rw [hbypassed.only]
    exact ⟨rfl, rfl⟩

/-- No gate skips an entry for want of an idle member. -/
theorem noIdle_countsOf (s : State) (p : Priority) (idx : Nat) (es : List RouteEntry) :
    (countsOf (gateReasons s p idx es)).noIdle = 0 := by
  refine List.count_eq_zero.2 fun hmem => ?_
  obtain ⟨z, -, hz⟩ := List.mem_map.1 hmem
  cases hr : s.group? z.1.group with
  | none => simp [gateReason, hr] at hz
  | some r =>
    rw [gateReason_eq hr] at hz
    split_ifs at hz <;> cases hz

theorem walkList_granted (hS : Beside s h n x i d S) (hctb : S.ctb = s.ctb) (hsac : S.sac = s.sac) (hevents : SameEvents s S)
    (hlist : (s.list l).drop y.resume = skipped ++ e :: rest) (hskips : none ∉ gateReasons s p y.resume skipped)
    (hr : s.group? e.group = some r) (hgates : gateReason s p (y.resume + skipped.length) e = none)
    (hfind : r.huntSequence.find? (r.eligible e.group y.tried) = some m) :
    let t := ended code h n (S.walkList n l p y)
    t.lnk = s.lnk.answered code h.tag (.selection none (.granted e.group m (y.resume + skipped.length))) ∧
      t.context? n = some (grantedContext (y.resume + skipped.length) e r m (s.guards r.carrier)
        { x with bypass := bypassOver s p y.resume skipped x.bypass }) ∧
      OtherContexts n s t ∧ t.group? e.group = some (r.granted n m) ∧ OtherGroups e.group s t ∧
      t.dest? i = some d ∧ OtherDests i s t ∧ t.sac = s.sac.admitted (s.guards r.carrier) ∧ SameRoutes s t ∧ SameServices s t := by
  obtain ⟨u, hu, hbeside, huctb, husac, huevents⟩ := walkList_skips hS hctb hsac hlist hskips
  rw [← gateReason_congr huctb husac] at hgates
  have hur := (group?_congr huctb e.group).trans hr
  obtain ⟨v, hv, hgranted⟩ := walk_granted n rest (countsOf (gateReasons s p y.resume skipped)) hur hgates hfind
  have hguards : u.guards r.carrier = s.guards r.carrier := by simp only [State.guards, husac]
  have hseized : Beside s h n { x with bypass := bypassOver s p y.resume skipped x.bypass } i d (seizedFor n e r m u) :=
    hbeside.congr rfl rfl rfl rfl rfl
  have hend := hseized.changed hgranted
  have hctb' : v.ctb = (u.setGroup e.group (r.granted n m)).ctb := hgranted.ctb
  rw [hu, hv]
  intro t
  refine ⟨hend.answered code _, hguards ▸ hend.own, hend.others, ?_, fun k hk => ?_, hend.dest, hend.otherDests, ?_,
    ⟨hend.lists, ?_, hend.sweep⟩, hend.clk, hend.rte, ?_, hend.pending⟩
  · exact (group?_congr hctb' e.group).trans (setGroup_group?_same u e.group _ (lt_of_group? hr))
  · exact (group?_congr hctb' k).trans ((setGroup_group?_other u e.group k _ hk).trans (group?_congr huctb k))
  · refine hgranted.sac.trans ?_
    rw [seizedFor, hguards, husac]
  · exact hgranted.slots.trans (huevents.2.trans hevents.2)
  · exact hgranted.enu.trans (huevents.1.trans hevents.1)

theorem walkList_exhausted (hS : Beside s h n x i d S) (hctb : S.ctb = s.ctb) (hsac : S.sac = s.sac) (hevents : SameEvents s S)
    (hskips : none ∉ gateReasons s p y.resume ((s.list l).drop y.resume)) :
    let left := (s.list l).drop y.resume
    let t := ended code h n (S.walkList n l p y)
    t.lnk = s.lnk.answered code h.tag (.selection none (.exhausted (countsOf (gateReasons s p y.resume left)))) ∧
      t.context? n = some (spentContext { x with bypass := bypassOver s p y.resume left x.bypass }) ∧
      OtherContexts n s t ∧ t.ctb = s.ctb ∧ t.dest? i = some d ∧ OtherDests i s t ∧ t.sac = s.sac ∧ SameRoutes s t ∧
      SameServices s t := by
  obtain ⟨u, hu, hbeside, huctb, husac, huevents⟩ := walkList_skips hS hctb hsac (List.append_nil _).symm hskips
  rw [hu]
  exact ended_ungranted code hbeside huctb husac ⟨huevents.1.trans hevents.1, huevents.2.trans hevents.2⟩ rfl

theorem walkList_noIdle (hS : Beside s h n x i d S) (hctb : S.ctb = s.ctb) (hsac : S.sac = s.sac) (hevents : SameEvents s S)
    (hlist : (s.list l).drop y.resume = skipped ++ [e]) (hskips : none ∉ gateReasons s p y.resume skipped)
    (hr : s.group? e.group = some r) (hgates : gateReason s p (y.resume + skipped.length) e = none)
    (hfind : r.huntSequence.find? (r.eligible e.group y.tried) = none) :
    let t := ended code h n (S.walkList n l p y)
    t.lnk = s.lnk.answered code h.tag
        (.selection none (.exhausted { countsOf (gateReasons s p y.resume skipped) with noIdle := 1 })) ∧
      t.context? n = some (spentContext { x with bypass := max (bypassOver s p y.resume skipped x.bypass) r.level }) ∧
      OtherContexts n s t ∧ t.group? e.group = some r.overflowed ∧ OtherGroups e.group s t ∧
      t.dest? i = some d ∧ OtherDests i s t ∧ t.sac = s.sac ∧ SameEvents (s.overflowEvents e.group r) t ∧
      t.rse.lists = s.rse.lists ∧ t.rse.sweep = s.rse.sweep ∧ t.clk = s.clk ∧ t.rte = s.rte ∧ t.pending = s.pending := by
  obtain ⟨u, hu, hbeside, huctb, husac, huevents⟩ := walkList_skips hS hctb hsac hlist hskips
  rw [← gateReason_congr huctb husac] at hgates
  have hur := (group?_congr huctb e.group).trans hr
  obtain ⟨v, hv, hbypassed⟩ := walk_noIdle n [] (countsOf (gateReasons s p y.resume skipped)) hur hgates hfind
  have hraises := Raises.overflowEvents e.group r
  have hspend := spend_changed (o := .exhausted { countsOf (gateReasons s p y.resume skipped) with noIdle := 1 }) rfl
    (v.overflowEvents e.group r) n
  have hcounted : Beside s h n { x with bypass := bypassOver s p y.resume skipped x.bypass } i d (u.setGroup e.group r.overflowed) :=
    hbeside.congr rfl rfl rfl rfl rfl
  have hraised := (hcounted.changed hbypassed).raises hraises
  have hend := hraised.changed hspend
  have hctb' := hspend.ctb.trans ((hraises.ctb v).trans hbypassed.ctb)
  have hinputs : EventInputs s v :=
    ⟨hbypassed.enu.trans (huevents.1.trans hevents.1),
      hbypassed.slots.trans (huevents.2.trans hevents.2),
      (congrArg Lnk.phase (hcounted.changed hbypassed).lnk).trans rfl, congrArg Clk.count (hcounted.changed hbypassed).clk⟩
  have hsame := hraises.sameEvents hinputs
  rw [hu, hv, noIdle_countsOf]
  intro t
  refine ⟨hend.answered code _, hend.own, hend.others, ?_, fun k hk => ?_, hend.dest, hend.otherDests,
    hspend.sac.trans ((hraises.sac v).trans (hbypassed.sac.trans husac)), ⟨?_, ?_⟩, hend.lists, hend.sweep, hend.clk, hend.rte,
    hend.pending⟩
  · exact (group?_congr hctb' e.group).trans (setGroup_group?_same u e.group _ (lt_of_group? hr))
  · exact (group?_congr hctb' k).trans ((setGroup_group?_other u e.group k _ hk).trans (group?_congr huctb k))
  · exact hspend.enu.trans hsame.1
  · exact hspend.slots.trans hsame.2

end Ends

/-! ### The far-mark gate (R85, R86) and the resolved list (R100) -/

section Gate
variable {s : State} {d : Dest} {p : Priority}

theorem markAdmits_iff : markAdmits d.mark d.gap p = true ↔ MarkAdmits d p := by
  cases p <;> simp [markAdmits, MarkAdmits]

/-- The gate writes the destination with its gap counter moved on. -/
theorem farGate_eq (s : State) (i : Nat) (d : Dest) (p : Priority) :
    s.farGate i d p = (markAdmits d.mark d.gap p, s.setDest i (d.gated p)) := by
  have hgated : ({ d with gap := nextGap d.mark d.gap p } : Dest) = d.gated p := by
    cases p with
    | essential => rfl
    | deferrable => rfl
    | normal => by_cases hmark : d.mark = 2 <;> simp [nextGap, Dest.gated, hmark]
  rw [State.farGate, hgated]

theorem resolveList_eq {base list : Nat} (h : ResolvesTo s base list) : resolveList s.rse.slots.toList base = list := by
  unfold resolveList
  rcases h with ⟨i, ⟨hactive, hbase⟩, hsubstitute, hlowest⟩ | ⟨rfl, hnone⟩
  · have hfind : s.rse.slots.toList.find? (fun x => x.state == .active && x.base == base) = some s.rse.slots[i] := by
      refine List.find?_eq_some_iff_getElem.2 ⟨?_, i.val, by simp, by simp, fun j hj => ?_⟩
      · rw [hactive, hbase]
        simp
      · have hlow := not_and_or.1 (hlowest ⟨j, by omega⟩ hj)
        simpa using hlow
    rw [hfind]
    exact hsubstitute
  · have hfind : s.rse.slots.toList.find? (fun x => x.state == .active && x.base == list) = none := by
      refine List.find?_eq_none.2 fun x hx => ?_
      obtain ⟨j, hj, rfl⟩ := List.mem_iff_getElem.1 hx
      have hno := not_and.1 (hnone ⟨j, by simpa using hj⟩)
      simpa using hno
    rw [hfind]

end Gate

theorem setContext_changed {s : State} {h : Handed} {n : Nat} {x : Context} (hx : s.context? n = some x) (f : Context → Context) :
    ContextChanged n f (s.withHanded h) ((s.withHanded h).setContext n (f x)) :=
  ⟨rfl, fun k hk => setContext_context?_other _ n k _ hk, by
    rw [setContext_context?_same, show (s.withHanded h).context? n = some x from hx]
    rfl⟩

/-! ### ROUTE (R34, R56) -/

/-- The context as ROUTE sets out: its progress with the budget allowed and nothing tried. -/
def routing (budget : Nat) (x : Context) : Context := { x with progress := some ⟨max 1 (min budget 15), 0, [], 0⟩ }

section Route
variable {s : State} {h : Handed} {n budget i l : Nat} {called : DigitField} {ds : List Nat} {x : Context} {d : Dest}

theorem exec_route (ht : Taken s (.route n budget called) h) (hn : n ≤ 4095) (hds : readDigits 24 called = some ds)
    (hx : s.context? n = some x) (hstate : x.state = .inOnly) :
    exec (.route n budget called) s = .next (ended 0x02 h n
      (((s.withHanded h).setContext n (routing budget x)).firstSelection n (routing budget x) ⟨max 1 (min budget 15), 0, [], 0⟩ ds)) := by
  have hvalid : ¬ 4095 < n := by omega
  have hcontext : (s.withHanded h).context? n = some x := hx
  have hready : ¬ x.state ≠ .inOnly := not_not.2 hstate
  refine congrArg Host.Outcome.next (serve_act ht false ?_)
  simp only [route, hvalid, if_false, hds, hcontext, hready]
  rfl

/-- The state in which ROUTE's far-mark gate has been applied. -/
def gatedRoute (h : Handed) (n budget i : Nat) (d : Dest) (x : Context) (s : State) : State :=
  ((s.withHanded h).setContext n { routing budget x with destination := some i }).setDest i (d.gated x.priority)

theorem gatedRoute_beside : Beside s h n { routing budget x with destination := some i } i (d.gated x.priority)
    (gatedRoute h n budget i d x s) where
  lnk := rfl
  own := setContext_context?_same (s.withHanded h) n _
  others k hk := setContext_context?_other (s.withHanded h) n k _ hk
  dest := setDest_dest?_same _ i _
  otherDests k hk := setDest_otherDests ((s.withHanded h).setContext n { routing budget x with destination := some i }) i _ k hk
  lists := rfl
  sweep := rfl
  clk := rfl
  rte := rfl
  pending := rfl

theorem firstSelection_eq (y : Progress) (hmatch : matchDest ds s.rse.dests = some (i, d)) :
    ((s.withHanded h).setContext n (routing budget x)).firstSelection n (routing budget x) y ds =
      if markAdmits d.mark d.gap x.priority = true then
        ((gatedRoute h n budget i d x s).changeContext n fun c =>
          { c with resolved := some (resolveList s.rse.slots.toList d.list) }).walkList n (resolveList s.rse.slots.toList d.list)
            x.priority y
      else (.farCongested, gatedRoute h n budget i d x s) := by
  have hdestined : ((s.withHanded h).setContext n (routing budget x)).changeContext n (fun c => { c with destination := some i }) =
      (s.withHanded h).setContext n { routing budget x with destination := some i } := by
    unfold State.changeContext
    rw [setContext_context?_same]
    exact setContext_setContext _ n _ _
  unfold State.firstSelection
  rw [show ((s.withHanded h).setContext n (routing budget x)).rse.dests = s.rse.dests from rfl, hmatch]
  dsimp only
  rw [hdestined, farGate_eq, show (routing budget x).priority = x.priority from rfl]
  cases markAdmits d.mark d.gap x.priority <;> rfl

/-- A ROUTE that the far mark admits walks the resolved list. -/
theorem exec_route_admitted (ht : Taken s (.route n budget called) h) (hn : n ≤ 4095) (hds : readDigits 24 called = some ds)
    (hx : s.context? n = some x) (hstate : x.state = .inOnly) (hmatch : matchDest ds s.rse.dests = some (i, d))
    (hadmits : MarkAdmits d x.priority) (hlist : ResolvesTo s d.list l) :
    ∃ S, exec (.route n budget called) s =
        .next (ended 0x02 h n (S.walkList n l x.priority ⟨max 1 (min budget 15), 0, [], 0⟩)) ∧
      Beside s h n { routing budget x with destination := some i, resolved := some l } i (d.gated x.priority) S ∧
      S.ctb = s.ctb ∧ S.sac = s.sac ∧ SameEvents s S := by
  have hresolved := changeContext_changed (gatedRoute h n budget i d x s) n fun c => { c with resolved := some l }
  refine ⟨_, ?_, gatedRoute_beside.changed hresolved, hresolved.ctb, hresolved.sac, ?_⟩
  · rw [exec_route ht hn hds hx hstate, firstSelection_eq _ hmatch, if_pos (markAdmits_iff.2 hadmits), resolveList_eq hlist]
  · rw [hresolved.only]
    exact ⟨rfl, rfl⟩

end Route

/-- Settles O30: without a matching entry, or at the mark, there is no walk and the context is spent. -/
theorem routeWithoutSelectionIsSpent : Obligations.RouteWithoutSelectionIsSpent := by
  intro s h n budget called ds x ht hn hds hx hstate
  refine ⟨fun hmatch => ?noRoute, fun i d hmatch hrefused => ?farCongested⟩
  case noRoute =>
    have hselect : ((s.withHanded h).setContext n (routing budget x)).firstSelection n (routing budget x)
        ⟨max 1 (min budget 15), 0, [], 0⟩ ds = (.noRoute, (s.withHanded h).setContext n (routing budget x)) := by
      unfold State.firstSelection
      rw [show ((s.withHanded h).setContext n (routing budget x)).rse.dests = s.rse.dests from rfl, hmatch]
    refine ⟨_, exec_route ht hn hds hx hstate, ?_⟩
    rw [hselect]
    exact ended_unrouted 0x02 hx (setContext_changed hx (routing budget)) rfl
  case farCongested =>
    have hmark : markAdmits d.mark d.gap x.priority = false := by
      rw [← Bool.not_eq_true, markAdmits_iff]
      rintro (hp | ⟨hp, hok⟩ | ⟨hp, hok⟩) <;> rcases hrefused with ⟨hp', hm, hg⟩ | ⟨hp', hm⟩ <;> simp_all
    have hgap : d.gated x.priority = { d with gap := if x.priority = .normal then (if d.gap = 3 then 0 else d.gap + 1) else d.gap } := by
      rcases hrefused with ⟨hp, hm, -⟩ | ⟨hp, -⟩ <;> simp [Dest.gated, *]
    refine ⟨_, exec_route ht hn hds hx hstate, ?_⟩
    rw [firstSelection_eq _ hmatch, hmark, ← hgap]
    obtain ⟨hlnk, hown, hothers, hctb, hdest, hdests, hsac, hroutes, hservices⟩ :=
      ended_ungranted (o := .farCongested) 0x02 (gatedRoute_beside (s := s) (h := h) (n := n) (budget := budget) (i := i) (d := d) (x := x))
        rfl rfl ⟨rfl, rfl⟩ rfl
    exact ⟨hlnk, hown, hothers, hdest, hdests, hctb, hsac, hroutes, hservices⟩

end Sys2Proof.Proofs.Selections


namespace Sys2Proof.Proofs.Selections

open Sys2Proof.Machine Sys2Proof.Proofs.Circuits Sys2Proof.Proofs.Requests Sys2Proof.Proofs.Steps Sys2Proof.Proofs.ChargeRecords

/-! ### The reserves of a route entry (R78) -/

theorem reserveFor_table (level r : Nat) (first : Bool) (hlevel : level < 5) :
    let cell := fun column => (((reservationTable.getD level []).getD column none).map (· * r) : Option Nat)
    reserveFor level .essential first r = some 0 ∧
      reserveFor level .normal first r = cell (if first = true then 0 else 1) ∧
      reserveFor level .deferrable first r = cell (if first = true then 2 else 3) := by
  interval_cases level <;> cases first <;> simp [reserveFor, reservationTable]

/-- Settles O29: the walk passes over the refused entries, and the entry that decides it is hunted; the table of the reserves is
checked row by row. -/
theorem routeIsGrantedOnItsFirstChoice : Obligations.RouteIsGrantedOnItsFirstChoice := by
  refine ⟨fun s h n budget i l called ds x d ht hn hds hx hstate hmatch hadmits hlist => ?route,
    fun s n idx p tried e rest k => ⟨fun why hwhy => ?skip, fun r hr hgates hfind => ?noIdle⟩,
    fun level r first hlevel => reserveFor_table level r first hlevel⟩
  case route =>
    obtain ⟨S, hexec, hS, hctb, hsac, hevents⟩ := exec_route_admitted ht hn hds hx hstate hmatch hadmits hlist
    refine ⟨fun skipped e rest r m hentries hskips hr hgates hfind => ⟨_, hexec, ?granted⟩, fun hskips => ⟨_, hexec, ?exhausted⟩,
      fun skipped e r hentries hskips hr hgates hfind => ⟨_, hexec, ?nothing⟩⟩
    case granted =>
      have hend := walkList_granted (y := ⟨max 1 (min budget 15), 0, [], 0⟩) 0x02 hS hctb hsac hevents hentries hskips hr
        (by rwa [Nat.zero_add]) (by rwa [eligible_nil])
      rw [Nat.zero_add] at hend
      exact hend
    case exhausted =>
      exact walkList_exhausted (l := l) (y := ⟨max 1 (min budget 15), 0, [], 0⟩) 0x02 hS hctb hsac hevents hskips
    case nothing =>
      exact walkList_noIdle (y := ⟨max 1 (min budget 15), 0, [], 0⟩) 0x02 hS hctb hsac hevents hentries hskips hr
        (by rwa [Nat.zero_add]) (by rwa [eligible_nil])
  case skip =>
    obtain ⟨u, hu, hbypassed⟩ := walk_skip n tried rest k hwhy
    exact ⟨u, hu, hbypassed.only, hbypassed.others, hbypassed.own⟩
  case noIdle =>
    obtain ⟨v, hv, hbypassed⟩ := walk_noIdle (tried := tried) n rest k hr hgates (by rwa [eligible_eq])
    have hraises := Raises.overflowEvents e.group r
    have hctb := (hraises.ctb v).trans hbypassed.ctb
    have hinputs : EventInputs s v := ⟨hbypassed.enu, hbypassed.slots, congrArg Lnk.phase hbypassed.lnk, congrArg Clk.count hbypassed.clk⟩
    exact ⟨_, hv, (group?_congr hctb e.group).trans (setGroup_group?_same s e.group _ (lt_of_group? hr)),
      fun j hj => (group?_congr hctb j).trans (setGroup_group?_other s e.group j _ hj),
      fun j hj => (context?_congr (hraises.contexts v) j).trans (hbypassed.others j hj),
      (context?_congr (hraises.contexts v) n).trans hbypassed.own, hraises.sameEvents hinputs,
      (hraises.dests v).trans hbypassed.dests, (hraises.lists v).trans hbypassed.lists, (hraises.sweep v).trans hbypassed.sweep,
      (hraises.lnk v).trans hbypassed.lnk, (hraises.clk v).trans hbypassed.clk, (hraises.rte v).trans hbypassed.rte,
      (hraises.sac v).trans hbypassed.sac, (hraises.pending v).trans hbypassed.pending⟩

/-! ### CONTINUE (R39, R57) -/

section Continue
variable {s : State} {h : Handed} {n i l : Nat} {x : Context} {y : Progress} {d : Dest}

theorem exec_continueCall (ht : Taken s (.continueCall n) h) (hn : n ≤ 4095) (hx : s.context? n = some x) (hstate : x.state = .halted) :
    exec (.continueCall n) s = .next (ended 0x03 h n (rehunt n x (s.withHanded h))) := by
  have hvalid : ¬ 4095 < n := by omega
  have hcontext : (s.withHanded h).context? n = some x := hx
  have hready : ¬ x.state ≠ .halted := not_not.2 hstate
  refine congrArg Host.Outcome.next (serve_act ht false ?_)
  simp only [continueCall, hvalid, if_false, hcontext, hready, continueFrom_eq]

theorem mayTry_eq (hy : x.progress = some y) : x.mayTry = decide (y.used < y.budget) := by
  rw [Context.mayTry, hy]

theorem rehunt_spent (hy : x.progress = some y) (hused : y.used = y.budget) (s : State) : rehunt n x s = (.overBudget, s) := by
  rw [rehunt, mayTry_eq hy, hused]
  simp

/-- The state in which a crankback's far-mark gate has been applied (R57, R86). -/
def gatedAgain (h : Handed) (i : Nat) (d : Dest) (p : Priority) (s : State) : State := (s.withHanded h).setDest i (d.gated p)

theorem gatedAgain_beside (hx : s.context? n = some x) :
    Beside s h n x i (d.gated x.priority) (gatedAgain h i d x.priority s) where
  lnk := rfl
  own := hx
  others _ _ := rfl
  dest := setDest_dest?_same _ i _
  otherDests k hk := setDest_otherDests (s.withHanded h) i _ k hk
  lists := rfl
  sweep := rfl
  clk := rfl
  rte := rfl
  pending := rfl

theorem rehunt_eq (hy : x.progress = some y) (hused : y.used < y.budget) (hi : x.destination = some i) (hl : x.resolved = some l) :
    rehunt n x (s.withHanded h) =
      match s.dest? i with
      | none => (.noRoute, s.withHanded h)
      | some d =>
        if markAdmits d.mark d.gap x.priority = true then (gatedAgain h i d x.priority s).walkList n l x.priority y
        else (.farCongested, gatedAgain h i d x.priority s) := by
  rw [rehunt, mayTry_eq hy, if_pos (decide_eq_true hused), State.crankback, hi, hl, hy]
  dsimp only
  rw [show (s.withHanded h).dest? i = s.dest? i from rfl]
  cases s.dest? i with
  | none => rfl
  | some d =>
    dsimp only
    rw [farGate_eq]
    cases markAdmits d.mark d.gap x.priority <;> rfl

end Continue

/-- Settles O31: CONTINUE selects anew, by the same walk from the resume index on. -/
theorem continueTriesWithinTheBudget : Obligations.ContinueTriesWithinTheBudget := by
  intro s h n x y ht hn hx hstate hy spent
  have hexec := exec_continueCall ht hn hx hstate
  have hsame : ContextChanged n id (s.withHanded h) (s.withHanded h) := ⟨rfl, fun _ _ => rfl, by simp⟩
  refine ⟨fun hused => ⟨_, hexec, ?overBudget⟩, fun i l hused hi hl => ?crankback⟩
  case overBudget =>
    rw [rehunt_spent hy hused]
    exact ended_unrouted 0x03 hx hsame rfl
  case crankback =>
    have hrehunt := rehunt_eq (s := s) (h := h) (n := n) hy hused hi hl
    refine ⟨fun hdest => ⟨_, hexec, ?vacant⟩, fun d hdest hmark => ⟨_, hexec, ?marked⟩, fun d hdest hmark => ?walk⟩
    case vacant =>
      rw [hrehunt, hdest]
      exact ended_unrouted 0x03 hx hsame rfl
    case marked =>
      rw [hrehunt, hdest]
      dsimp only
      rw [if_neg (mt markAdmits_iff.1 hmark)]
      obtain ⟨hlnk, hown, hothers, hctb, hdest', hdests, hsac, hroutes, hservices⟩ :=
        ended_ungranted (h := h) (o := .farCongested) 0x03 (gatedAgain_beside hx) rfl rfl ⟨rfl, rfl⟩ rfl
      exact ⟨hlnk, hown, hothers, hctb, hdest', hdests, hsac, hroutes, hservices⟩
    case walk =>
      intro left
      rw [hdest] at hrehunt
      simp only [markAdmits_iff.2 hmark, if_true] at hrehunt
      rw [hrehunt] at hexec
      have hS := gatedAgain_beside (h := h) (i := i) (d := d) hx
      refine ⟨fun skipped e rest r m hentries hskips hr hgates hfind => ⟨_, hexec, ?granted⟩, fun hskips => ⟨_, hexec, ?exhausted⟩,
        fun skipped e r hentries hskips hr hgates hfind => ⟨_, hexec, ?nothing⟩⟩
      case granted =>
        have hend := walkList_granted 0x03 hS rfl rfl ⟨rfl, rfl⟩ hentries hskips hr hgates (by rwa [eligible_eq])
        simpa only [grantedContext, hy, Option.map_some] using hend
      case exhausted => exact walkList_exhausted (l := l) 0x03 hS rfl rfl ⟨rfl, rfl⟩ hskips
      case nothing => exact walkList_noIdle 0x03 hS rfl rfl ⟨rfl, rfl⟩ hentries hskips hr hgates (by rwa [eligible_eq])

end Sys2Proof.Proofs.Selections


/-! ## Call requests: SEIZE_IN, CONFIRM and FAIL (R23, R33, R36 to R38) -/

namespace Sys2Proof.Proofs.Calls

open Sys2Proof.Machine Sys2Proof.Proofs.Circuits Sys2Proof.Proofs.Requests Sys2Proof.Proofs.Steps Sys2Proof.Proofs.ChargeRecords
open Sys2Proof.Proofs.Selections

/-! ### SEIZE_IN (R23, R33) -/

section Seize
variable {s : State} {h : Handed} {g m prio n : Nat} {q : BitVec 32} {p : Priority} {r : Group} {c : Circuit}

theorem takeContext?_eq (h : LowestFree s n) : s.takeContext? = some n := by
  obtain ⟨hn, hfree, hlower⟩ := h
  exact lowestFree_eq_some hn hfree hlower

theorem recordBarred_eq_false (h : Admits s r.carrier) : s.recordBarred r.carrier = false := by
  rw [← Bool.not_eq_true, recordBarred_iff]
  rintro ⟨hguards, hfull⟩
  have hroom := h hguards
  rw [Config.records] at hroom
  omega

/-- The context that an accepted seizure takes (R33). -/
def newcomer (s : State) (g m : Nat) (r : Group) (q : BitVec 32) (p : Priority) : Context :=
  ⟨.inOnly, q, p, ⟨g, m, r.carrier, r.inboundBand, s.guards r.carrier⟩, none, none, none, none, 0, none, none⟩

/-- A seizure accepted: the circuit IN_BUSY, the record place taken, the context written. -/
theorem acceptSeizure_eq (hr : s.group? g = some r) (c : Circuit) (q : BitVec 32) (p : Priority) (n : Nat) :
    s.acceptSeizure g m r c q p n = { (s.setGroup g (r.setCircuit m (c.incoming n))).setContext n (newcomer s g m r q p) with
      sac := s.sac.admitted (s.guards r.carrier) } := by
  simp only [State.acceptSeizure, setCircuit_eq hr, admitLeg_eq]
  rfl

theorem seizeIn_idle (hr : s.group? g = some r) (hc : r.members[m]? = some c) (hp : decodePriority prio = some p)
    (hdirection : r.direction ≠ .outgoing) (hstate : r.state ≠ .blocked) (hidle : c.state = .idle ∨ c.state = .guard)
    (hn : LowestFree s n) (hroom : Admits s r.carrier) :
    seizeIn g m q prio s = (.accepted (.seized n none), s.acceptSeizure g m r c q p n) := by
  unfold seizeIn
  simp only [hr, hc, hp, hdirection, hstate, if_false, takeContext?_eq hn, recordBarred_eq_false hroom]
  rcases hidle with hidle | hidle <;> simp [hidle]

end Seize

/-- Settles O25: the checks pass, and the circuit, its place and its context are written. -/
theorem seizeInTakesAContext : Obligations.SeizeInTakesAContext := by
  intro s h g m prio n q p r c ht hr hc hp hdirection hstate hidle hn hroom
  have hact : seizeIn g m q prio (s.withHanded h) =
      (.accepted (.seized n none), (s.withHanded h).acceptSeizure g m r c q p n) :=
    seizeIn_idle (s := s.withHanded h) hr hc hp hdirection hstate hidle hn hroom
  refine ⟨_, congrArg Host.Outcome.next (serve_act ht false hact), ?_⟩
  rw [acceptSeizure_eq (s := s.withHanded h) hr]
  exact ⟨rfl, setContext_context?_same (s.withHanded h) n _, fun k hk => setContext_context?_other (s.withHanded h) n k _ hk,
    setGroup_group?_same (s.withHanded h) g _ (lt_of_group? hr), fun k hk => setGroup_group?_other (s.withHanded h) g k _ hk,
    rfl, rfl, ⟨rfl, rfl, rfl⟩, rfl, rfl, rfl, rfl⟩

/-! ### What a report finds (R32, R36, R37) -/

section Reports
variable {s : State} {h : Handed} {n g m cause again : Nat} {x : Context} {o : OutLeg} {r : Group} {c : Circuit} {d : Deny}

theorem reportOn_found (hx : s.context? n = some x) (hstate : x.state = .pending) (ho : x.outLeg = some o) (hg : o.group = g)
    (hm : o.member = m) : reportOn n g m s = .inr (x, o) := by
  simp [reportOn, hx, hstate, ho, hg, hm]

/-- The table of 2.2: what a report answers that is not for the out-leg of a PENDING context. -/
theorem reportOn_refused
    (htable : s.context? n = none ∧ d = .wrongState ∨
      ∃ x, s.context? n = some x ∧
        ((x.state = .inOnly ∨ x.state = .spent) ∧ d = .wrongState ∨ x.state = .halted ∧ d = .halted ∨
          ∃ o, x.outLeg = some o ∧
            ((x.state = .pending ∨ x.state = .established ∨ x.state = .answered) ∧ ¬ (o.group = g ∧ o.member = m) ∧ d = .stale ∨
              (x.state = .established ∨ x.state = .answered) ∧ o.group = g ∧ o.member = m ∧ d = .wrongState))) :
    reportOn n g m s = .inl d := by
  unfold reportOn
  rcases htable with ⟨hnone, rfl⟩ | ⟨x, hx, hrow⟩
  · rw [hnone]
  rw [hx]
  rcases hrow with ⟨hstate, rfl⟩ | ⟨hstate, rfl⟩ | ⟨o, ho, ⟨hstate, hother, rfl⟩ | ⟨hstate, hg, hm, rfl⟩⟩
  · rcases hstate with hstate | hstate <;> simp [hstate]
  · simp [hstate]
  · rcases hstate with hstate | hstate | hstate <;> simp [hstate, ho, hother]
  · rcases hstate with hstate | hstate <;> simp [hstate, ho, hg, hm]

theorem confirm_refused (hn : n ≤ 4095) (hr : s.group? g = some r) (hm : m < r.size) (hreport : reportOn n g m s = .inl d) :
    confirm n g m s = (.denied d, s) := by
  have hvalid : ¬ 4095 < n := by omega
  simp only [confirm, hvalid, if_false, badCircuit_eq_none.2 ⟨r, hr, hm⟩, hreport]

theorem confirm_found (hn : n ≤ 4095) (hr : s.group? g = some r) (hc : r.members[m]? = some c) (hreport : reportOn n g m s = .inr (x, o))
    (hstate : c.state = .outPending) :
    confirm n g m s = (.accepted .plain,
      (s.setGroup g (r.setCircuit m { c with state := .outBusy, seizeTimer := none })).changeContext n
        fun y => { y with state := .established }) := by
  have hvalid : ¬ 4095 < n := by omega
  have hm : m < r.size := (List.getElem?_eq_some_iff.1 hc).1
  have hconfirmed : c.confirmed = { c with state := .outBusy, seizeTimer := none } := if_pos hstate
  simp only [confirm, hvalid, if_false, badCircuit_eq_none.2 ⟨r, hr, hm⟩, hreport, changeGroup_eq hr, modify_eq_set hc, hconfirmed]
  rfl

theorem decodeFailCause_isSome (hcause : cause ≤ 2) : ∃ f, decodeFailCause cause = some f := by
  interval_cases cause <;> exact ⟨_, rfl⟩

theorem failCall_refused (hn : n ≤ 4095) (hr : s.group? g = some r) (hm : m < r.size) (hcause : cause ≤ 2) (hagain : again ≤ 1)
    (hreport : reportOn n g m s = .inl d) : failCall n g m cause again s = (.denied d, s) := by
  have hvalid : ¬ 4095 < n := by omega
  obtain ⟨f, hf⟩ := decodeFailCause_isSome hcause
  simp only [failCall, hvalid, if_false, badCircuit_eq_none.2 ⟨r, hr, hm⟩, hf, decodeFlag_of_le hagain, hreport]

end Reports

/-- Settles O33: each report is refused by the one table. -/
theorem reportsAreRefusedByTheTable : Obligations.ReportsAreRefusedByTheTable := by
  intro s h n g m cause again c code r d hkind ht hn hr hm htable
  have hreport : reportOn n g m (s.withHanded h) = .inl d := reportOn_refused htable
  rcases hkind with ⟨rfl, rfl⟩ | ⟨rfl, rfl, hcause, hagain⟩
  · exact congrArg Host.Outcome.next (serve_unchanged ht false (confirm_refused (s := s.withHanded h) hn hr hm hreport))
  · exact congrArg Host.Outcome.next (serve_unchanged ht false (failCall_refused (s := s.withHanded h) hn hr hm hcause hagain hreport))

/-- Settles O32: the circuit and the context are written. -/
theorem confirmEstablishesTheCall : Obligations.ConfirmEstablishesTheCall := by
  intro s h n g m x o r c ht hn hx hstate ho hg hm hr hc hpending
  have hreport : reportOn n g m (s.withHanded h) = .inr (x, o) := reportOn_found (s := s.withHanded h) hx hstate ho hg hm
  have hact := confirm_found (s := s.withHanded h) hn hr hc hreport hpending
  have hchanged := changeContext_changed
    ((s.withHanded h).setGroup g (r.setCircuit m { c with state := .outBusy, seizeTimer := none })) n
    fun y => { y with state := .established }
  refine ⟨_, congrArg Host.Outcome.next (serve_act ht false hact), place_answered hchanged.lnk h.tag, ?_, hchanged.others, ?_,
    fun k hk => ?_, hchanged.dests, hchanged.sac, ⟨hchanged.lists, hchanged.slots, hchanged.sweep⟩, hchanged.clk, hchanged.rte,
    hchanged.enu, hchanged.pending⟩
  · exact hchanged.own.trans (congrArg (Option.map _) hx)
  · exact (group?_congr hchanged.ctb g).trans (setGroup_group?_same _ g _ (lt_of_group? hr))
  · exact (group?_congr hchanged.ctb k).trans (setGroup_group?_other _ g k _ hk)

end Sys2Proof.Proofs.Calls


/-! ## What a selection does not read: the link, and the state and halt cause of its own context -/

namespace Sys2Proof.Proofs.Selections

open Sys2Proof.Machine Sys2Proof.Proofs.Circuits Sys2Proof.Proofs.Requests Sys2Proof.Proofs.Steps Sys2Proof.Proofs.ChargeRecords

/-- A change `G` of a state that the selection for context `n` does not see: what it reads stays, and every write of it may be made
before the change or after it. A grant may write over part of the change; then `G'` is left of it. -/
structure Unseen (n : Nat) (D : State → Prop) (G G' : State → State) : Prop where
  ctb : ∀ {s}, D s → (G s).ctb = s.ctb
  sac : ∀ {s}, D s → (G s).sac = s.sac
  dests : ∀ {s}, D s → (G s).rse.dests = s.rse.dests
  lists : ∀ {s}, D s → (G s).rse.lists = s.rse.lists
  setGroup : ∀ {s}, D s → ∀ g r, D (s.setGroup g r) ∧ (G s).setGroup g r = G (s.setGroup g r)
  setDest : ∀ {s}, D s → ∀ i d, D (s.setDest i d) ∧ (G s).setDest i d = G (s.setDest i d)
  raise : ∀ {s}, D s → ∀ e, D (s.raise e) ∧ (G s).raise e = G (s.raise e)
  raiseBypass : ∀ {s}, D s → ∀ l, D (s.raiseBypass n l) ∧ (G s).raiseBypass n l = G (s.raiseBypass n l)
  grant : ∀ {s}, D s → ∀ idx e r m, (G s).grant n idx e r m = G' (s.grant n idx e r m)

/-- What is left of an unseen change after a selection. -/
def left (G G' : State → State) (o : Selection) (u : State) : State := if o.isGrant = true then G' u else G u

namespace Unseen
variable {n : Nat} {D : State → Prop} {G G' : State → State} (hG : Unseen n D G G')
include hG

section Steps
variable {s : State} (hs : D s)
include hs

theorem gateReason_eq (p : Priority) (idx : Nat) (e : RouteEntry) : gateReason (G s) p idx e = gateReason s p idx e :=
  gateReason_congr (hG.ctb hs) (hG.sac hs) p idx e

theorem afterSkip (e : RouteEntry) (why : Skip) : D (afterSkip n e why s) ∧ afterSkip n e why (G s) = G (afterSkip n e why s) := by
  unfold Selections.afterSkip
  rw [group?_congr (hG.ctb hs)]
  split_ifs
  · cases s.group? e.group with
    | none => exact ⟨hs, rfl⟩
    | some r => exact hG.raiseBypass hs r.level
  · exact ⟨hs, rfl⟩

theorem overflowEvents (g : Nat) (r : Group) : D (s.overflowEvents g r) ∧ (G s).overflowEvents g r = G (s.overflowEvents g r) := by
  unfold State.overflowEvents
  split_ifs
  · exact ⟨hs, rfl⟩
  · exact hG.raise hs _

/-- An entry is skipped or granted as it would be without the change. -/
theorem examine (idx : Nat) (p : Priority) (tried : List (Nat × Nat)) (e : RouteEntry) :
    (∃ why u, s.examine n idx p tried e = (.inl why, u) ∧ (G s).examine n idx p tried e = (.inl why, G u) ∧ D u) ∨
      ∃ m u, s.examine n idx p tried e = (.inr m, u) ∧ (G s).examine n idx p tried e = (.inr m, G' u) := by
  have hreason := hG.gateReason_eq hs p idx e
  cases hgates : gateReason s p idx e with
  | some why =>
    obtain ⟨hskip, hsame⟩ := hG.afterSkip hs e why
    exact .inl ⟨why, _, examine_skipped n tried hgates, hsame ▸ examine_skipped n tried (hreason.trans hgates), hskip⟩
  | none =>
    cases hr : s.group? e.group with
    | none => simp [gateReason, hr] at hgates
    | some r =>
      have hr' := (group?_congr (hG.ctb hs) e.group).trans hr
      have hhere := examine_hunted n tried hr hgates
      have hthere := examine_hunted n tried hr' (hreason.trans hgates)
      cases hfind : r.huntSequence.find? (r.eligible e.group tried) with
      | some m =>
        rw [hunt_found n hfind] at hhere hthere
        obtain ⟨hseized, hsame⟩ := hG.setGroup hs e.group (r.granted n m)
        refine .inr ⟨m, _, hhere, hthere.trans ?_⟩
        dsimp only
        rw [hsame, hG.grant hseized]
      | none =>
        rw [hunt_nothing n hfind] at hhere hthere
        dsimp only at hhere hthere
        rw [overflow_eq n hr] at hhere
        rw [overflow_eq n hr'] at hthere
        obtain ⟨hcounted, hsame⟩ := hG.setGroup hs e.group r.overflowed
        obtain ⟨hraised, hsame'⟩ := hG.raiseBypass hcounted r.level
        obtain ⟨hevents, hsame''⟩ := hG.overflowEvents hraised e.group r
        refine .inl ⟨.noIdle, _, hhere, hthere.trans ?_, hevents⟩
        rw [hsame, hsame', hsame'']

theorem walk (p : Priority) (tried : List (Nat × Nat)) (idx : Nat) (es : List RouteEntry) (k : Skips) :
    ∃ o u, s.walk n p tried idx es k = (o, u) ∧ (G s).walk n p tried idx es k = (o, left G G' o u) := by
  induction es generalizing s idx k with
  | nil => exact ⟨_, _, rfl, rfl⟩
  | cons e es ih =>
    rcases hG.examine hs idx p tried e with ⟨why, u, hhere, hthere, hu⟩ | ⟨m, u, hhere, hthere⟩
    · rw [State.walk, State.walk, hhere, hthere]
      exact ih hu (idx + 1) (k.count why)
    · rw [State.walk, State.walk, hhere, hthere]
      exact ⟨_, _, rfl, rfl⟩

theorem walkList (l : Nat) (p : Priority) (y : Progress) :
    ∃ o u, s.walkList n l p y = (o, u) ∧ (G s).walkList n l p y = (o, left G G' o u) := by
  rw [walkList_eq (hG.lists hs)]
  exact hG.walk hs p y.tried y.resume _ _

theorem crankback (c : Context) : ∃ o u, s.crankback n c = (o, u) ∧ (G s).crankback n c = (o, left G G' o u) := by
  unfold State.crankback
  split
  · rw [dest?_congr (hG.dests hs)]
    split
    · exact ⟨_, _, rfl, rfl⟩
    · rename_i d _
      rw [farGate_eq, farGate_eq]
      obtain ⟨hgated, hsame⟩ := hG.setDest hs _ (d.gated c.priority)
      dsimp only
      rw [hsame]
      split_ifs
      · exact ⟨_, _, rfl, rfl⟩
      · exact hG.walkList hgated _ _ _
  · exact ⟨_, _, rfl, rfl⟩

/-- A selection made anew comes to the same, and leaves the change as it is. -/
theorem rehunt (c : Context) : ∃ o u, Steps.rehunt n c s = (o, u) ∧ Steps.rehunt n c (G s) = (o, left G G' o u) := by
  unfold Steps.rehunt
  split_ifs
  · exact hG.crankback hs c
  · exact ⟨_, _, rfl, rfl⟩

end Steps
end Unseen

theorem grant_eq (s : State) (n idx : Nat) (e : RouteEntry) (r : Group) (m : Nat) :
    s.grant n idx e r m = ({ s with sac := s.sac.admitted (s.guards r.carrier) } : State).changeContext n
      (grantedContext idx e r m (s.guards r.carrier)) := by
  simp only [State.grant, admitLeg_eq]
  rfl

/-! ### The link -/

/-- The state with another link. -/
def relinked (l : Lnk) (s : State) : State := { s with lnk := l }

section Relinked
variable {s : State} {l : Lnk} (hl : l.phase = s.lnk.phase)

theorem changeContext_relinked (l : Lnk) (s : State) (n : Nat) (f : Context → Context) :
    (relinked l s).changeContext n f = relinked l (s.changeContext n f) := by
  unfold State.changeContext
  rw [show (relinked l s).context? n = s.context? n from rfl]
  cases s.context? n <;> rfl

include hl in
theorem Raises.relinked {f : State → State} (hf : Raises f) : f (relinked l s) = Selections.relinked l (f s) := by
  rw [hf.eq_of_inputs (s := s) (t := Selections.relinked l s) ⟨rfl, rfl, hl, rfl⟩]
  conv_rhs => rw [hf.eq_of_inputs (s := s) (t := s) ⟨rfl, rfl, rfl, rfl⟩]
  rfl

theorem unseen_relinked (n : Nat) (l : Lnk) :
    Unseen n (fun s => l.phase = s.lnk.phase) (Selections.relinked l) (Selections.relinked l) where
  ctb _ := rfl
  sac _ := rfl
  dests _ := rfl
  lists _ := rfl
  setGroup hs _ _ := ⟨hs, rfl⟩
  setDest hs _ _ := ⟨hs, rfl⟩
  raise {s} hs e := ⟨by rw [hs, raise_lnk], Raises.relinked hs (.event e)⟩
  raiseBypass {s} hs level := ⟨by rw [hs, State.raiseBypass_lnk], changeContext_relinked l s n _⟩
  grant {s} _ idx e r m := by
    rw [grant_eq, grant_eq]
    exact changeContext_relinked l { s with sac := s.sac.admitted (s.guards r.carrier) } n _

end Relinked

/-! ### The context's own state -/

section Marked
variable {n : Nat} {f : Context → Context}

theorem changeContext_changeContext (s : State) (n : Nat) (f f' : Context → Context) :
    (s.changeContext n f).changeContext n f' = s.changeContext n fun c => f' (f c) := by
  unfold State.changeContext
  cases hc : s.context? n with
  | none => simp [hc]
  | some c => simp

theorem changeContext_raise (s : State) (n : Nat) (f : Context → Context) (e : Event) :
    (s.changeContext n f).raise e = (s.raise e).changeContext n f := by
  unfold State.changeContext
  rw [raise_context?]
  cases s.context? n with
  | none => rfl
  | some c =>
    dsimp only
    rw [raise_eq_of_inputs (s := s) (t := s.setContext n (f c)) ⟨rfl, rfl, rfl, rfl⟩]
    conv_rhs => rw [raise_eq_of_inputs (s := s) (t := s) ⟨rfl, rfl, rfl, rfl⟩]
    rfl

theorem changeContext_sac (s : State) (n : Nat) (f : Context → Context) (k : Sac) :
    ({ s.changeContext n f with sac := k } : State) = ({ s with sac := k } : State).changeContext n f := by
  unfold State.changeContext
  rw [show ({ s with sac := k } : State).context? n = s.context? n from rfl]
  cases s.context? n <;> rfl

theorem unseen_changeContext
    (hbypass : ∀ c level, { f c with bypass := max (f c).bypass level } = f { c with bypass := max c.bypass level })
    (hgrant : ∀ idx e r m b c, grantedContext idx e r m b (f c) = grantedContext idx e r m b c) :
    Unseen n (fun _ => True) (State.changeContext n f) id where
  ctb _ := (changeContext_changed _ n f).ctb
  sac _ := (changeContext_changed _ n f).sac
  dests _ := (changeContext_changed _ n f).dests
  lists _ := (changeContext_changed _ n f).lists
  setGroup {s} _ g r := ⟨trivial, by
    unfold State.changeContext
    rw [show (s.setGroup g r).context? n = s.context? n from rfl]
    cases s.context? n <;> rfl⟩
  setDest {s} _ i d := ⟨trivial, by
    unfold State.changeContext
    rw [show (s.setDest i d).context? n = s.context? n from rfl]
    cases s.context? n <;> rfl⟩
  raise {s} _ e := ⟨trivial, changeContext_raise s n f e⟩
  raiseBypass {s} _ level := ⟨trivial, by
    rw [State.raiseBypass, State.raiseBypass, changeContext_changeContext, changeContext_changeContext]
    exact congrArg (s.changeContext n) (funext fun c => hbypass c level)⟩
  grant {s} _ idx e r m := by
    have hsac := (changeContext_changed s n f).sac
    have hguards : (s.changeContext n f).guards r.carrier = s.guards r.carrier := by simp only [State.guards, hsac]
    simp only [grant_eq, hguards, hsac, changeContext_sac, changeContext_changeContext, hgrant, id]

end Marked

end Sys2Proof.Proofs.Selections


/-! ## FAIL (R37, R38) -/

namespace Sys2Proof.Proofs.Calls

open Sys2Proof.Machine Sys2Proof.Proofs.Circuits Sys2Proof.Proofs.Requests Sys2Proof.Proofs.Steps Sys2Proof.Proofs.ChargeRecords
open Sys2Proof.Proofs.Selections Sys2Proof.Proofs.Timers Sys2Proof.Proofs.TrunkGroups

section Fail
variable {s : State} {h : Handed} {n g m cause : Nat} {x : Context} {o : OutLeg} {r : Group} {c : Circuit} {f : FailCause}

theorem failCall_failed (hn : n ≤ 4095) (hr : s.group? g = some r) (hm : m < r.size) (hf : decodeFailCause cause = some f)
    (hreport : reportOn n g m s = .inr (x, o)) :
    failCall n g m cause 0 s = (.accepted (.failed f.halt x.remaining), s.failAttempt f n o) := by
  have hvalid : ¬ 4095 < n := by omega
  simp only [failCall, hvalid, if_false, badCircuit_eq_none.2 ⟨r, hr, hm⟩, hf, decodeFlag_of_le (Nat.zero_le 1), hreport]
  rfl

theorem failAttempt_context? (hx : s.context? n = some x) (f : FailCause) (o : OutLeg) :
    (s.failAttempt f n o).context? n = some (x.halt f.halt (f.resume o.entry)) := by
  have hkept : ((s.failCircuit f o.group o.member).settleGuard o.guarded).context? n = some x := by
    rw [← hx]
    exact context?_congr (by rw [State.settleGuard_rse]; exact failCircuit_contexts s f o.group o.member) n
  rw [State.failAttempt, changeContext_context?_same _ hkept]

theorem failCall_continued (hn : n ≤ 4095) (hr : s.group? g = some r) (hm : m < r.size) (hf : decodeFailCause cause = some f)
    (hreport : reportOn n g m s = .inr (x, o)) :
    failCall n g m cause 1 s =
      (.selection (some f.halt) ((s.failAttempt f n o).continueFrom n (x.halt f.halt (f.resume o.entry))).1,
        ((s.failAttempt f n o).continueFrom n (x.halt f.halt (f.resume o.entry))).2) := by
  have hvalid : ¬ 4095 < n := by omega
  have hcontext := failAttempt_context? (reportOn_context s hreport) f o
  simp only [failCall, hvalid, if_false, badCircuit_eq_none.2 ⟨r, hr, hm⟩, hf, decodeFlag_of_le le_rfl, hreport, decide_true, if_true,
    hcontext]

theorem remaining_eq {y : Progress} (hy : x.progress = some y) : x.remaining = y.budget - y.used := by
  rw [Context.remaining, hy]

/-- What the end of an out-leg leaves of the part: its group written, its events raised, its place given back, its context changed. -/
theorem endOutLeg_frame {e : State → State} (he : Raises e) (hr : s.group? g = some r) (hx : s.context? n = some x) (R : Group) (b : Bool)
    (φ : Context → Context) (code : Byte) (a : Answer) :
    let u := e ((s.withHanded h).setGroup g R)
    let t := (({ u with sac := u.sac.settled b } : State).changeContext n φ).place code h.tag a
    t.lnk = s.lnk.answered code h.tag a ∧ t.context? n = some (φ x) ∧ OtherContexts n s t ∧ t.group? g = some R ∧
      SameEvents (e s) t ∧ OtherGroups g s t ∧ t.sac = s.sac.settled b ∧ t.rse.dests = s.rse.dests ∧
      t.rse.lists = s.rse.lists ∧ t.rse.sweep = s.rse.sweep ∧ t.clk = s.clk ∧ t.rte = s.rte ∧ t.pending = s.pending := by
  intro u t
  have hchanged := changeContext_changed ({ u with sac := u.sac.settled b } : State) n φ
  have hevents : SameEvents (e s) u := he.sameEvents ⟨rfl, rfl, rfl, rfl⟩
  have hctb := hchanged.ctb.trans (he.ctb ((s.withHanded h).setGroup g R))
  refine ⟨place_answered (hchanged.lnk.trans (he.lnk ((s.withHanded h).setGroup g R))) h.tag, ?_, fun k hk => ?_, ?_,
    ⟨hchanged.enu.trans hevents.1, hchanged.slots.trans hevents.2⟩, fun k hk => ?_,
    hchanged.sac.trans (congrArg (Sac.settled · b) (he.sac ((s.withHanded h).setGroup g R))),
    hchanged.dests.trans (he.dests ((s.withHanded h).setGroup g R)), hchanged.lists.trans (he.lists ((s.withHanded h).setGroup g R)),
    hchanged.sweep.trans (he.sweep ((s.withHanded h).setGroup g R)), hchanged.clk.trans (he.clk ((s.withHanded h).setGroup g R)),
    hchanged.rte.trans (he.rte ((s.withHanded h).setGroup g R)), hchanged.pending.trans (he.pending ((s.withHanded h).setGroup g R))⟩
  · have hown : ({ u with sac := u.sac.settled b } : State).context? n = some x :=
      (context?_congr (he.contexts ((s.withHanded h).setGroup g R)) n).trans hx
    rw [place_context?, hchanged.own, hown]
    rfl
  · exact (hchanged.others k hk).trans (context?_congr (he.contexts ((s.withHanded h).setGroup g R)) k)
  · exact (group?_congr hctb g).trans (setGroup_group?_same (s.withHanded h) g R (lt_of_group? hr))
  · exact (group?_congr hctb k).trans (setGroup_group?_other (s.withHanded h) g k R hk)

/-- A group after a fault release of one of its circuits (R13). -/
def faultedAs (m : Nat) (r : Group) : Group :=
  { r.setCircuit m (Circuit.blockedWith true) with tallies := { r.tallies with faults := tallyUp r.tallies.faults } }

/-- A failure whose release leaves its group at `R` and raises events. -/
theorem failAttempt_eq {e : State → State} {R : Group} (hrelease : s.failCircuit f o.group o.member = e (s.setGroup g R)) :
    s.failAttempt f n o =
      ({ e (s.setGroup g R) with sac := (e (s.setGroup g R)).sac.settled o.guarded } : State).changeContext n
        (Context.halt f.halt (f.resume o.entry)) := by
  rw [State.failAttempt, hrelease, settleGuard_eq]

end Fail

/-! ### FAIL followed by CONTINUE (R38) -/

section Relinked
variable {s : State} {l : Lnk} (hl : l.phase = s.lnk.phase) (g m : Nat)
include hl

theorem ordinaryRelease_relinked : (relinked l s).ordinaryRelease g m = relinked l (s.ordinaryRelease g m) := by
  rcases busy_or_not s g m with ⟨r, c, hr, hc, hbusy⟩ | hidle
  · rw [ordinaryRelease_eq (s := relinked l s) hr hc hbusy, ordinaryRelease_eq hr hc hbusy]
    exact Raises.relinked (s := s.setGroup g _) hl (.drainEvents g _)
  · rw [ordinaryRelease_eq_self (s := relinked l s) hidle, ordinaryRelease_eq_self hidle]

theorem faultRelease_relinked : (relinked l s).faultRelease g m = relinked l (s.faultRelease g m) := by
  rcases busy_or_not s g m with ⟨r, c, hr, hc, hbusy⟩ | hidle
  · rw [faultRelease_eq (s := relinked l s) hr hc hbusy, faultRelease_eq hr hc hbusy, ← raise_setGroup, ← raise_setGroup]
    exact Raises.relinked (s := s.setGroup g _) hl ((Raises.drainEvents g _).after (.event (.circuitTrouble g m .fault)))
  · rw [faultRelease_eq_self (s := relinked l s) hidle, faultRelease_eq_self hidle]

theorem failCircuit_relinked (f : FailCause) : (relinked l s).failCircuit f g m = relinked l (s.failCircuit f g m) := by
  cases f with
  | circuitFault => exact faultRelease_relinked hl g m
  | farCongestion => exact ordinaryRelease_relinked hl g m
  | farRefused => exact ordinaryRelease_relinked hl g m

theorem failAttempt_relinked (f : FailCause) (n : Nat) (o : OutLeg) :
    (relinked l s).failAttempt f n o = relinked l (s.failAttempt f n o) := by
  rw [State.failAttempt, State.failAttempt, failCircuit_relinked hl, settleGuard_eq, settleGuard_eq]
  exact changeContext_relinked l { s.failCircuit f o.group o.member with sac := (s.failCircuit f o.group o.member).sac.settled o.guarded } n _

end Relinked

theorem failCircuit_callOnly (s : State) (f : FailCause) (g m : Nat) : CallOnly s (s.failCircuit f g m) := by
  cases f with
  | circuitFault => exact (faultRelease_groupOnly g m s).callOnly
  | farCongestion => exact (ordinaryRelease_groupOnly g m s).callOnly
  | farRefused => exact (ordinaryRelease_groupOnly g m s).callOnly

theorem failAttempt_callOnly (s : State) (f : FailCause) (n : Nat) (o : OutLeg) : CallOnly s (s.failAttempt f n o) :=
  ((failCircuit_callOnly s f o.group o.member).trans (settleGuard_callOnly _ _)).trans (changeContext_callOnly _ _ _)

theorem left_self (G : State → State) (o : Selection) (u : State) : left G G o u = G u := ite_self _

theorem spend_relinked (l : Lnk) (u : State) (n : Nat) (o : Selection) : (relinked l u).spend n o = relinked l (u.spend n o) := by
  unfold State.spend
  split_ifs
  · rfl
  · exact changeContext_relinked l u n _

theorem rehunt_relinked {s : State} {l : Lnk} (hl : l.phase = s.lnk.phase) (n : Nat) (c : Context) :
    rehunt n c (relinked l s) = ((rehunt n c s).1, relinked l (rehunt n c s).2) := by
  obtain ⟨o, u, hhere, hthere⟩ := (unseen_relinked n l).rehunt hl c
  rw [hthere, hhere, left_self]

theorem continueFrom_relinked {s : State} {l : Lnk} (hl : l.phase = s.lnk.phase) (n : Nat) (c : Context) :
    (relinked l s).continueFrom n c = ((s.continueFrom n c).1, relinked l (s.continueFrom n c).2) := by
  rw [continueFrom_eq, continueFrom_eq, rehunt_relinked hl, spend_relinked]

/-- The link with a request handed on. -/
def handing (s : State) (h : Handed) : Lnk := { s.lnk with handed := some h }

theorem taken_handing {s u : State} {h : Handed} (hu : u.sweeping = false) : Taken (relinked (handing s h) u) h.request h :=
  ⟨by simp [State.takes?, relinked, handing], hu⟩

/-- A FAIL without its continue flag, on the link that has just handed it on. -/
theorem exec_fail {s : State} {h : Handed} {n g m cause : Nat} {x : Context} {o : OutLeg} {r : Group} {f : FailCause} (hn : n ≤ 4095)
    (hr : s.group? g = some r) (hm : m < r.size) (hf : decodeFailCause cause = some f) (hreport : reportOn n g m s = .inr (x, o))
    (hsweeping : s.sweeping = false) (hrequest : h.request = .failCall n g m cause 0) :
    exec (.failCall n g m cause 0) (relinked (handing s h) s) =
      .next ((relinked (handing s h) (s.failAttempt f n o)).place 0x05 h.tag (.accepted (.failed f.halt x.remaining))) := by
  have ht := taken_handing (s := s) (h := h) hsweeping
  rw [hrequest] at ht
  have hact := failCall_failed (s := (relinked (handing s h) s).withHanded h) hn hr hm hf hreport
  rw [← failAttempt_relinked (l := handing s h) rfl]
  exact congrArg Host.Outcome.next (serve_act ht false hact)

/-- A CONTINUE, on the link that has just handed it on. -/
theorem exec_continue_relinked {s u : State} {h : Handed} {n : Nat} {x : Context} (hn : n ≤ 4095) (hx : u.context? n = some x)
    (hstate : x.state = .halted) (hsweeping : u.sweeping = false) (hphase : (handing s h).phase = u.lnk.phase)
    (hrequest : h.request = .continueCall n) :
    exec (.continueCall n) (relinked (handing s h) u) =
      .next ((relinked (handing s h) (u.continueFrom n x).2).place 0x03 h.tag (.selection none (u.continueFrom n x).1)) := by
  have ht := taken_handing (s := s) (u := u) (h := h) hsweeping
  rw [hrequest] at ht
  have hexec := exec_continueCall (s := relinked (handing s h) u) ht hn hx hstate
  rw [hexec, show (relinked (handing s h) u).withHanded h = relinked (handing s h) u from rfl, rehunt_relinked hphase, ended,
    spend_relinked, continueFrom_eq]

/-- Settles O34: a FAIL is the release of its circuit and the halt; its CONTINUE is the one that CONTINUE itself makes. -/
theorem failHaltsTheContext : Obligations.FailHaltsTheContext := by
  refine ⟨fun s h n g m cause x y o r c ht hn hx hstate ho hg hm hy hr hc hpending => ?once,
    fun s h n g m cause x o r hc ht hn hx hstate ho hg hm hr hsize hcause => ?again⟩
  case once =>
    subst hg hm
    have hsize : o.member < r.size := (List.getElem?_eq_some_iff.1 hc).1
    have hbusy : c.state.isBusy = true := by rw [hpending]; rfl
    have hreport : reportOn n o.group o.member (s.withHanded h) = .inr (x, o) := reportOn_found (s := s.withHanded h) hx hstate ho rfl rfl
    have hexec : ∀ f, decodeFailCause cause = some f → exec (.failCall n o.group o.member cause 0) s =
        .next (((s.withHanded h).failAttempt f n o).place 0x05 h.tag (.accepted (.failed f.halt (y.budget - y.used)))) := fun f hf =>
      congrArg Host.Outcome.next (serve_act ht false
        ((failCall_failed (s := s.withHanded h) hn hr hsize hf hreport).trans (by rw [remaining_eq hy])))
    refine ⟨fun hc' hcause => ?far, fun hcause => ?fault⟩
    case far =>
      have hrelease := ordinaryRelease_eq (s := s.withHanded h) hr hc hbusy
      have hframe := endOutLeg_frame (h := h) (Raises.drainEvents o.group (r.setCircuit o.member (releasedAs r c))) hr hx
        (drainedAs (r.setCircuit o.member (releasedAs r c))) o.guarded (Context.halt hc' (some (o.entry + 1))) 0x05
        (.accepted (.failed hc' (y.budget - y.used)))
      have hhalted : Context.halt hc' (some (o.entry + 1)) x = { x with
          state := .halted, outLeg := none, haltCause := some hc', progress := some { y with resume := o.entry + 1 } } := by
        simp [Context.halt, hy]
      rw [hhalted] at hframe
      rcases hcause with ⟨rfl, rfl⟩ | ⟨rfl, rfl⟩
      · refine ⟨_, hexec .farCongestion rfl, ?_⟩
        rw [failAttempt_eq (f := .farCongestion) hrelease]
        exact hframe
      · refine ⟨_, hexec .farRefused rfl, ?_⟩
        rw [failAttempt_eq (f := .farRefused) hrelease]
        exact hframe
    case fault =>
      subst hcause
      have hrelease : (s.withHanded h).faultRelease o.group o.member =
          (((s.withHanded h).setGroup o.group (drainedAs (faultedAs o.member r))).raise (.circuitTrouble o.group o.member .fault)).drainEvents
            o.group (faultedAs o.member r) := by
        rw [raise_setGroup]
        exact faultRelease_eq (s := s.withHanded h) hr hc hbusy
      refine ⟨_, hexec .circuitFault rfl, ?_⟩
      rw [failAttempt_eq (f := .circuitFault)
        (e := fun u => (u.raise (.circuitTrouble o.group o.member .fault)).drainEvents o.group (faultedAs o.member r)) hrelease]
      have hhalted : Context.halt .fault none x = { x with state := .halted, outLeg := none, haltCause := some .fault } := by
        simp [Context.halt, hy]
      have hframe := endOutLeg_frame (h := h)
        ((Raises.drainEvents o.group (faultedAs o.member r)).after (.event (.circuitTrouble o.group o.member .fault))) hr hx
        (drainedAs (faultedAs o.member r)) o.guarded (Context.halt .fault none) 0x05 (.accepted (.failed .fault (y.budget - y.used)))
      rw [hhalted] at hframe
      exact hframe
  case again =>
    subst hg hm
    obtain ⟨f, hf, rfl⟩ : ∃ f, decodeFailCause cause = some f ∧ f.halt = hc := by
      rcases hcause with ⟨rfl, rfl⟩ | ⟨rfl, rfl⟩ | ⟨rfl, rfl⟩ <;> exact ⟨_, rfl, rfl⟩
    have hreport : reportOn n o.group o.member s = .inr (x, o) := reportOn_found hx hstate ho rfl rfl
    obtain ⟨-, hsweeping⟩ := id ht
    obtain ⟨hlnk, -, -, -, hsweep, -⟩ := failAttempt_callOnly s f n o
    have hstill : (s.failAttempt f n o).sweeping = false := (congrArg Option.isSome hsweep).trans hsweeping
    have hfail := exec_fail (h := ⟨h.tag, h.arrival, .failCall n o.group o.member cause 0⟩) hn hr hsize hf hreport hsweeping rfl
    have hphase : ∀ h' : Handed, (handing s h').phase = (s.failAttempt f n o).lnk.phase := fun _ => (congrArg Lnk.phase hlnk).symm
    have hcontinue := exec_continue_relinked (h := ⟨h.tag, h.arrival, .continueCall n⟩) hn (failAttempt_context? hx f o) rfl hstill
      (hphase _) rfl
    have hagain := failCall_continued (s := s.withHanded h) hn hr hsize hf hreport
    rw [show s.withHanded h = relinked (handing s h) s from rfl, failAttempt_relinked (l := handing s h) rfl,
      continueFrom_relinked (hphase h)] at hagain
    have hserve := serve_act (k := 0x05) (act := fun _ => failCall n o.group o.member cause 1) ht false hagain
    exact ⟨_, _, _, hfail, hcontinue, rfl, congrArg Host.Outcome.next (hserve.trans rfl)⟩

end Sys2Proof.Proofs.Calls


/-! ## Glare (R24, R25, R41) -/

namespace Sys2Proof.Proofs.Calls

open Sys2Proof.Machine Sys2Proof.Proofs.Circuits Sys2Proof.Proofs.Requests Sys2Proof.Proofs.Steps Sys2Proof.Proofs.ChargeRecords
open Sys2Proof.Proofs.Selections Sys2Proof.Proofs.Timers
open Sys2Proof.Proofs.TrunkGroups (changeGroup_otherGroups changeGroup_place_sameOutsideCtb)
open Sys2Proof.Proofs.Queries (countTally_group?)

section Glare
variable {s : State} {h : Handed} {g m prio n k : Nat} {q : BitVec 32} {p : Priority} {r : Group} {c : Circuit} {x : Context}

/-- The keys decide a glare (R24, R25). -/
theorem seizeIn_glare (hr : s.group? g = some r) (hc : r.members[m]? = some c) (hp : decodePriority prio = some p)
    (hdirection : r.direction = .both) (hstate : r.state ≠ .blocked) (hpending : c.state = .outPending) :
    seizeIn g m q prio s =
      if r.farKey < r.localKey then (.denied .glareRejected, s.countTally g Tallies.won) else s.yieldGlare g m r c q p := by
  have hin : r.direction ≠ .outgoing := by rw [hdirection]; decide
  unfold seizeIn
  simp only [hr, hc, hp, hin, hstate, if_false, hpending]

/-- The state that a yield leaves before the losing context selects anew. -/
def yielded (g m n k : Nat) (q : BitVec 32) (p : Priority) (r : Group) (c : Circuit) (x : Context) (s : State) : State :=
  { ((s.setGroup g (r.setCircuit m (c.incoming n))).setContext n (newcomer s g m r q p)).setContext k (dropped x) with
    sac := (s.sac.admitted (s.guards r.carrier)).settled (outGuarded x) }

/-- What the losing context's selection leaves: HALTED with cause GLARE unless it grants (R25, R41). -/
def afterRehunt (k : Nat) (w : Selection × State) : State :=
  if w.1.isGrant = true then w.2 else w.2.changeContext k haltedByGlare

theorem yieldGlare_eq (hr : s.group? g = some r) (hn : LowestFree s n) (hroom : Admits s r.carrier) (hk : c.context = some k)
    (hx : s.context? k = some x) :
    s.yieldGlare g m r c q p =
      (.accepted (.seized n (some (k, (rehunt k (dropped x) (yielded g m n k q p r c x s)).1))),
        ((afterRehunt k (rehunt k (dropped x) (yielded g m n k q p r c x s))).countTally g Tallies.lost).raise (.glare g m)) := by
  have hne : k ≠ n := by
    rintro rfl
    obtain ⟨-, hfree, -⟩ := hn
    exact absurd hx (by rw [hfree]; exact (Option.some_ne_none _).symm)
  have haccepted := acceptSeizure_eq (m := m) hr c q p n
  have hloser : (s.acceptSeizure g m r c q p n).context? k = some x := by
    rw [haccepted]
    exact (setContext_context?_other _ n k _ hne).trans hx
  have hyielded : dropOutLeg k x (s.acceptSeizure g m r c q p n) = yielded g m n k q p r c x s := by
    rw [haccepted, dropOutLeg, settleGuard_eq]
    rfl
  unfold State.yieldGlare
  rw [takeContext?_eq hn]
  simp only [recordBarred_eq_false hroom, hk, Option.getD_some, loseGlare_eq hloser, hyielded]
  rfl

theorem mayTry_dropped (x : Context) : (dropped x).mayTry = x.mayTry := rfl

theorem spend_contextChanged (u : State) (n : Nat) (o : Selection) : ∃ f, ContextChanged n f u (u.spend n o) := by
  cases ho : o.isGrant with
  | true => exact ⟨id, by rw [State.spend, ho]; exact ⟨rfl, fun _ _ => rfl, by simp⟩⟩
  | false => exact ⟨_, spend_changed ho u n⟩

/-- With cause GLARE in place the selection comes to the same (R25, R39). -/
theorem unseen_haltedByGlare (k : Nat) : Unseen k (fun _ => True) (State.changeContext k haltedByGlare) id :=
  unseen_changeContext (fun _ _ => rfl) fun _ _ _ _ _ _ => rfl

theorem rehunt_haltedByGlare (s : State) (k : Nat) (x : Context) :
    rehunt k (haltedByGlare (dropped x)) (s.changeContext k haltedByGlare) =
      ((rehunt k (dropped x) s).1, afterRehunt k (rehunt k (dropped x) s)) := by
  obtain ⟨o, u, hhere, hthere⟩ := (unseen_haltedByGlare k).rehunt (s := s) trivial (dropped x)
  rw [hhere]
  exact hthere

theorem yielded_changeContext (f : Context → Context) :
    (yielded g m n k q p r c x s).changeContext k f =
      { ((s.setGroup g (r.setCircuit m (c.incoming n))).setContext n (newcomer s g m r q p)).setContext k (f (dropped x)) with
        sac := (s.sac.admitted (s.guards r.carrier)).settled (outGuarded x) } := by
  have hk : (yielded g m n k q p r c x s).context? k = some (dropped x) :=
    setContext_context?_same ((s.setGroup g (r.setCircuit m (c.incoming n))).setContext n (newcomer s g m r q p)) k _
  unfold State.changeContext
  rw [hk]
  dsimp only
  rw [yielded]
  have hset := setContext_setContext ((s.setGroup g (r.setCircuit m (c.incoming n))).setContext n (newcomer s g m r q p)) k
    (dropped x) (f (dropped x))
  exact congrArg (fun u : State => { u with sac := (s.sac.admitted (s.guards r.carrier)).settled (outGuarded x) }) hset

theorem afterRehunt_relinked (l : Lnk) (k : Nat) (o : Selection) (u : State) :
    afterRehunt k (o, relinked l u) = relinked l (afterRehunt k (o, u)) := by
  unfold afterRehunt
  dsimp only
  rw [changeContext_relinked]
  split_ifs <;> rfl

/-- What a yield's tally, event and reply leave of the state after the losing context's selection. -/
def glareEnded (h : Handed) (g m : Nat) (a : Answer) (s u : State) : State :=
  (((relinked (handing s h) u).countTally g Tallies.lost).raise (.glare g m)).place 0x01 h.tag a

theorem exec_yield (ht : Taken s (.seizeIn g m q prio) h) (hr : s.group? g = some r) (hc : r.members[m]? = some c)
    (hp : decodePriority prio = some p) (hdirection : r.direction = .both) (hstate : r.state ≠ .blocked) (hpending : c.state = .outPending)
    (hkeys : r.localKey < r.farKey) (hn : LowestFree s n) (hroom : Admits s r.carrier) (hk : c.context = some k)
    (hx : s.context? k = some x) :
    let w := rehunt k (dropped x) (yielded g m n k q p r c x s)
    exec (.seizeIn g m q prio) s =
      .next (glareEnded h g m (.accepted (.seized n (some (k, w.1)))) s (afterRehunt k w)) := by
  have hlesser : ¬ r.farKey < r.localKey := by omega
  have hseize := seizeIn_glare (s := s.withHanded h) (q := q) hr hc hp hdirection hstate hpending
  have hselect := rehunt_relinked (s := yielded g m n k q p r c x s) (l := handing s h) rfl k (dropped x)
  rw [if_neg hlesser, yieldGlare_eq (s := s.withHanded h) hr hn hroom hk hx,
    show yielded g m n k q p r c x (s.withHanded h) = relinked (handing s h) (yielded g m n k q p r c x s) from rfl, hselect,
    afterRehunt_relinked] at hseize
  exact congrArg Host.Outcome.next (serve_act ht false hseize)

/-- The tally, the event and the reply change nothing else. -/
theorem glareEnded_frame (h : Handed) (g m : Nat) (a : Answer) (s u : State) :
    let t := glareEnded h g m a s u
    t.lnk = s.lnk.answered 0x01 h.tag a ∧ (∀ j, t.context? j = u.context? j) ∧
      t.group? g = (u.group? g).map (fun y => { y with tallies := Tallies.lost y.tallies }) ∧ OtherGroups g u t ∧ t.sac = u.sac ∧
      (∀ v : State, v.enu = u.enu → v.rse.slots = u.rse.slots → v.lnk.phase = s.lnk.phase → v.clk.count = u.clk.count →
        SameEvents (v.raise (.glare g m)) t) ∧
      t.rse.dests = u.rse.dests ∧ t.rse.lists = u.rse.lists ∧ t.rse.sweep = u.rse.sweep ∧ t.clk = u.clk ∧ t.rte = u.rte ∧
      t.pending = u.pending := by
  intro t
  have hevent := Raises.event (.glare g m)
  have hlnk : (((relinked (handing s h) u).countTally g Tallies.lost).raise (.glare g m)).lnk = handing s h := by simp [relinked]
  refine ⟨place_answered hlnk h.tag, fun j => ?_, ?_, fun j hj => ?_, ?_, fun v henu hslots hphase hcount => ?_, ?_, ?_, ?_, ?_, ?_, ?_⟩
  · rw [show t.context? j = _ from place_context? .., raise_context?]
    exact context?_congr (by simp [relinked]) j
  · exact (hevent.group? _ g).trans (countTally_group? (relinked (handing s h) u) g _)
  · exact (hevent.group? _ j).trans (changeGroup_otherGroups (relinked (handing s h) u) g _ j hj)
  · simp [t, glareEnded, relinked]
  · exact hevent.sameEvents (s := v) ⟨by simp [relinked, henu], by simp [relinked, hslots], by simp [relinked, handing, hphase],
      by simp [relinked, hcount]⟩
  all_goals simp [t, glareEnded, relinked]

/-- CONTINUE on the state that the yield leaves with the loser HALTED. -/
theorem exec_continue_yielded (hk : k ≤ 4095) (hsweeping : s.sweeping = false) (hrequest : h.request = .continueCall k) :
    let w := rehunt k (dropped x) (yielded g m n k q p r c x s)
    exec (.continueCall k) (relinked (handing s h) ((yielded g m n k q p r c x s).changeContext k haltedByGlare)) =
      .next ((relinked (handing s h) ((afterRehunt k w).spend k w.1)).place 0x03 h.tag (.selection none w.1)) := by
  have hloser : ((yielded g m n k q p r c x s).changeContext k haltedByGlare).context? k = some (haltedByGlare (dropped x)) := by
    rw [yielded_changeContext]
    exact setContext_context?_same ((s.setGroup g (r.setCircuit m (c.incoming n))).setContext n (newcomer s g m r q p)) k _
  have hstill : ((yielded g m n k q p r c x s).changeContext k haltedByGlare).sweeping = false := by
    rw [yielded_changeContext]
    exact hsweeping
  have hphase : (handing s h).phase = ((yielded g m n k q p r c x s).changeContext k haltedByGlare).lnk.phase := by
    rw [yielded_changeContext]
    rfl
  have hexec := exec_continue_relinked (s := s) (h := h) hk hloser rfl hstill hphase hrequest
  rwa [continueFrom_eq, rehunt_haltedByGlare] at hexec

/-- The losing context after its selection, against the one that CONTINUE leaves. -/
theorem spend_own (k : Nat) (w : Selection × State) :
    (afterRehunt k w).context? k = if w.1.isGrant = true then ((afterRehunt k w).spend k w.1).context? k
      else (((afterRehunt k w).spend k w.1).context? k).map haltedByGlare := by
  unfold afterRehunt State.spend
  split_ifs
  · rfl
  · rw [changeContext_changeContext, (changeContext_changed w.2 k _).own, (changeContext_changed w.2 k _).own, Option.map_map]
    rfl

end Glare

/-- Settles O26: the winner counts, the loser's context selects anew as by CONTINUE. -/
theorem glareIsDecidedByTheKeys : Obligations.GlareIsDecidedByTheKeys := by
  intro s h g m prio q p r c ht hr hc hp hdirection hstate hpending
  have hseize := seizeIn_glare (s := s.withHanded h) (q := q) hr hc hp hdirection hstate hpending
  refine ⟨fun hkeys => ?won, fun n k x hkeys hn hroom hk hx => ?lost⟩
  case won =>
    rw [if_pos hkeys] at hseize
    exact ⟨_, congrArg Host.Outcome.next (serve_act ht false hseize), place_answered (State.countTally_lnk _ _ _) h.tag,
      (countTally_group? (s.withHanded h) g _).trans (congrArg _ hr), changeGroup_otherGroups (s.withHanded h) g _,
      changeGroup_place_sameOutsideCtb (s.withHanded h) g _ _ _ _⟩
  case lost =>
    intro newcomer' loser yielded' sac lost
    have hexec := exec_yield ht hr hc hp hdirection hstate hpending hkeys hn hroom hk hx
    refine ⟨fun hspent => ⟨_, hexec, ?spent⟩, fun hvalid => ?again⟩
    case spent =>
      have hselect : rehunt k (dropped x) (yielded g m n k q p r c x s) = (.overBudget, yielded g m n k q p r c x s) := by
        rw [rehunt, mayTry_dropped, hspent]
        rfl
      rw [hselect]
      have hafter : afterRehunt k (.overBudget, yielded g m n k q p r c x s) =
        { ((s.setGroup g yielded').setContext n newcomer').setContext k loser with sac } := yielded_changeContext haltedByGlare
      obtain ⟨hlnk, hcontexts, hgroup, hgroups, hsac, hevents, hdests, hlists, hsweep, hclk, hrte, hqueue⟩ :=
        glareEnded_frame h g m (.accepted (.seized n (some (k, .overBudget)))) s
          { ((s.setGroup g yielded').setContext n newcomer').setContext k loser with sac }
      have hne : n ≠ k := by
        rintro rfl
        obtain ⟨-, hfree, -⟩ := hn
        exact absurd hfree (by rw [hx]; exact Option.some_ne_none _)
      have hown : ∀ j, j ≠ k → ({ ((s.setGroup g yielded').setContext n newcomer').setContext k loser with sac } : State).context? j =
          ((s.setGroup g yielded').setContext n newcomer').context? j := fun j hj => setContext_context?_other _ k j _ hj
      rw [hafter]
      refine ⟨hlnk, ?_, ?_, fun j hjn hjk => ?_, ?_, fun j hj => ?_, hsac, hevents s rfl rfl rfl rfl, hdests, hlists, hsweep, hclk, hrte,
        hqueue⟩
      · rw [hcontexts, hown n hne]
        exact setContext_context?_same _ n _
      · rw [hcontexts]
        exact setContext_context?_same ((s.setGroup g yielded').setContext n newcomer') k _
      · rw [hcontexts, hown j hjk]
        exact setContext_context?_other _ n j _ hjn
      · rw [hgroup]
        exact congrArg (Option.map _) (setGroup_group?_same s g _ (lt_of_group? hr))
      · exact (hgroups j hj).trans (setGroup_group?_other s g j _ hj)
    case again =>
      have hsweeping : s.sweeping = false := ht.2
      have hcontinue := exec_continue_yielded (h := ⟨h.tag, h.arrival, .continueCall k⟩) (g := g) (m := m) (n := n) (q := q) (p := p)
        (r := r) (c := c) (x := x) hvalid hsweeping rfl
      rw [yielded_changeContext] at hcontinue
      have hown := spend_own k (rehunt k (dropped x) (yielded g m n k q p r c x s))
      generalize rehunt k (dropped x) (yielded g m n k q p r c x s) = w at hexec hcontinue hown
      obtain ⟨f, hspend⟩ := spend_contextChanged (afterRehunt k w) k w.1
      obtain ⟨hlnk, hcontexts, hgroup, hgroups, hsac, hevents, hdests, hlists, hsweep, hclk, hrte, hqueue⟩ :=
        glareEnded_frame h g m (.accepted (.seized n (some (k, w.1)))) s (afterRehunt k w)
      refine ⟨_, w.1, _, hcontinue, rfl, hexec, hlnk, (hcontexts k).trans hown, fun j hj => (hcontexts j).trans (hspend.others j hj).symm,
        ?_, fun j hj => (hgroups j hj).trans (group?_congr hspend.ctb j).symm, hsac.trans hspend.sac.symm,
        hevents _ hspend.enu hspend.slots rfl (congrArg Clk.count hspend.clk), hdests.trans hspend.dests.symm,
        hlists.trans hspend.lists.symm, hsweep.trans hspend.sweep.symm, hclk.trans hspend.clk.symm, hrte.trans hspend.rte.symm,
        hqueue.trans hspend.pending.symm⟩
      rw [hgroup]
      exact congrArg (Option.map _) (group?_congr hspend.ctb g).symm

end Sys2Proof.Proofs.Calls


/-! ## The end of a call's legs: rating, records and accounts (R44, R45, R135, R140, R162, R163) -/

namespace Sys2Proof.Proofs.Legs

open Sys2Proof Sys2Proof.Machine Sys2Proof.Proofs.Circuits Sys2Proof.Proofs.Requests Sys2Proof.Proofs.ChargeRecords
open Sys2Proof.Proofs.Timers (settleGuard_eq)

/-! ### The steps of a rating -/

/-- SAC and the events of an operation that changes no more may be told apart. -/
theorem raises_modifySac {f : State → State} (h : Raises f) (s : State) (g : Sac → Sac) :
    ({ f s with sac := g (f s).sac } : State) = f { s with sac := g s.sac } := by
  rw [h.sac]
  exact (h.setSac s (g s.sac)).symm

/-- ACCOUNT_SATURATED, when a leg's charge sets the flag (R141). -/
def saturatedEvents (k : Sac) (i : Fin 63) (r : ChargeRecord) (s : State) : State :=
  if (k.carriers[i].account r.direction).saturated = false ∧ 1099511627775 ≤ (k.carriers[i].account r.direction).total + r.charge
    then s.raise (.accountSaturated (i.val + 1) r.direction) else s

/-- RECORD_HIGH or RECORD_LOST, as the record is queued or lost (R163, R165). -/
def placedEvents (k : Sac) (i : Fin 63) (guarded : Bool) (r : ChargeRecord) (s : State) : State :=
  if k.places guarded = true then s.latchEvents k.latch (k.rated i guarded r).latch
  else s.raise (.recordLost r.sequence (i.val + 1) r.direction)

theorem ratedEvents_eq (k : Sac) (i : Fin 63) (guarded : Bool) (r : ChargeRecord) (s : State) :
    s.ratedEvents k i guarded r =
      (placedEvents k i guarded r (saturatedEvents k i r s)).standingEvents i k.carriers[i].standing
        (k.rated i guarded r).carriers[i].standing := rfl

theorem raises_saturatedEvents (k : Sac) (i : Fin 63) (r : ChargeRecord) : Raises (saturatedEvents k i r) := .ifElse (.event _) .none

theorem raises_placedEvents (k : Sac) (i : Fin 63) (guarded : Bool) (r : ChargeRecord) : Raises (placedEvents k i guarded r) :=
  .ifElse (.latchEvents _ _) (.event _)

theorem raises_ratedEvents (k : Sac) (i : Fin 63) (guarded : Bool) (r : ChargeRecord) : Raises (State.ratedEvents k i guarded r) :=
  (Raises.standingEvents i _ _).after ((raises_placedEvents k i guarded r).after (raises_saturatedEvents k i r))

/-- SAC after a rated leg is accounted, its sequence number used up and its record placed or lost; the standing still stands. -/
def placedSac (i : Fin 63) (guarded : Bool) (r : ChargeRecord) (k : Sac) : Sac :=
  { k with
    carriers := k.carriers.set i.val
      (k.carriers[i].setAccount r.direction (ratedAccount r (k.places guarded) (k.carriers[i].account r.direction))) i.isLt
    records := if k.places guarded = true then k.records ++ [r] else k.records
    guarded := if guarded = true then k.guarded - 1 else k.guarded
    sequence := k.sequence + 1
    latch := (k.rated i guarded r).latch }

section Rating
variable {s : State} {i : Fin 63} {guarded : Bool} {r : ChargeRecord}

/-- A rated leg's account, before its record is placed. -/
def accountedSac (i : Fin 63) (r : ChargeRecord) (k : Sac) : Sac :=
  { k with
    carriers := k.carriers.set i.val
      (k.carriers[i].setAccount r.direction ((k.carriers[i].account r.direction).take r.charge r.billed)) i.isLt
    sequence := k.sequence + 1 }

theorem account_eq (s : State) (i : Fin 63) (r : ChargeRecord) :
    (s.account i r.direction r.charge r.billed).nextSequence = saturatedEvents s.sac i r { s with sac := accountedSac i r s.sac } := by
  have hsaturates : (!(s.sac.carriers[i].account r.direction).saturated &&
      ((s.sac.carriers[i].account r.direction).take r.charge r.billed).saturated) = true ↔
        (s.sac.carriers[i].account r.direction).saturated = false ∧
          1099511627775 ≤ (s.sac.carriers[i].account r.direction).total + r.charge := by
    generalize s.sac.carriers[i].account r.direction = a
    cases ha : a.saturated <;> simp [Account.take, ha, Config.totalMax]
  have haccount : s.account i r.direction r.charge r.billed = saturatedEvents s.sac i r
      (s.changeAccount i r.direction (Account.take r.charge r.billed)) := by
    unfold State.account saturatedEvents
    dsimp only
    simp only [hsaturates]
    rfl
  rw [haccount, State.nextSequence, raises_modifySac (raises_saturatedEvents _ _ _) _ fun k => { k with sequence := k.sequence + 1 }]
  rfl

/-- A record is appended: SAC with the latch tested, and the event of its move (R162, R165). -/
theorem append_eq (s : State) (r : ChargeRecord) :
    s.append r = ({ s with sac := latched { s.sac with records := s.sac.records ++ [r] } } : State).latchEvents s.sac.latch
      (latched { s.sac with records := s.sac.records ++ [r] }).latch := by
  rw [State.append, testLatch_eq]

/-- A record finds its place, or is lost (R162, R163). -/
theorem placeRecord_split (s : State) (i : Fin 63) (guarded : Bool) (r : ChargeRecord) :
    s.placeRecord i guarded r =
      if s.sac.places guarded = true then (true, (s.settleGuard guarded).append r) else (false, s.lose i r) := by
  cases guarded with
  | true => rfl
  | false =>
    unfold State.placeRecord Sac.places
    rfl

theorem latch_accounted (k : Sac) (guarded : Bool) (hplaces : k.places guarded = true) :
    latched { (accountedSac i r k).settled guarded with records := ((accountedSac i r k).settled guarded).records ++ [r] } =
      placedSac i guarded r k := by
  simp [latched, Sac.settled, accountedSac, placedSac, Sac.rated, hplaces, ratedAccount, Account.take]
  rfl

/-- An account that counts a lost record (R163). -/
def countLost (a : Account) : Account := { a with lost := tallyUp a.lost }

/-- SAC with one account counting a lost record. -/
def lostSac (i : Fin 63) (d : LegDir) (k : Sac) : Sac :=
  { k with carriers := k.carriers.set i.val (k.carriers[i].setAccount d (countLost (k.carriers[i].account d))) i.isLt }

theorem lost_accounted (k : Sac) (guarded : Bool) (hplaces : k.places guarded = false) :
    lostSac i r.direction (accountedSac i r k) = placedSac i guarded r k := by
  have hguarded : guarded = false := by
    cases guarded with
    | true => cases hplaces
    | false => rfl
  subst hguarded
  cases hd : r.direction <;>
    simp [lostSac, countLost, accountedSac, placedSac, Sac.rated, hplaces, ratedAccount, Account.take, Carrier.account, Carrier.setAccount, hd] <;>
    rfl

theorem placeRecord_eq (s : State) (i : Fin 63) (guarded : Bool) (r : ChargeRecord) (hr : r.carrier = i.val + 1) :
    (s.account i r.direction r.charge r.billed).nextSequence.placeRecord i guarded r =
      (s.sac.places guarded,
        placedEvents s.sac i guarded r (saturatedEvents s.sac i r { s with sac := placedSac i guarded r s.sac })) := by
  have hsaturated := raises_saturatedEvents s.sac i r
  have hplaces : (accountedSac i r s.sac).places guarded = s.sac.places guarded := rfl
  rw [account_eq, placeRecord_split, hsaturated.sac, hplaces]
  by_cases hqueued : s.sac.places guarded = true
  · rw [if_pos hqueued, settleGuard_eq, append_eq, hsaturated.sac]
    dsimp only
    rw [latch_accounted s.sac guarded hqueued, ← hsaturated.setSac, hqueued, placedEvents, if_pos hqueued]
    cases guarded <;> rfl
  · have hlost : (saturatedEvents s.sac i r { s with sac := accountedSac i r s.sac }).lose i r =
        (saturatedEvents s.sac i r { s with sac := placedSac i guarded r s.sac }).raise (.recordLost r.sequence (i.val + 1) r.direction) := by
      rw [← lost_accounted s.sac guarded (Bool.eq_false_iff.2 hqueued), ← hr]
      exact congrArg (State.raise _)
        (raises_modifySac hsaturated { s with sac := accountedSac i r s.sac } (lostSac i r.direction))
    rw [if_neg hqueued, hlost, placedEvents, if_neg hqueued, Bool.eq_false_iff.2 hqueued]

/-- The carrier of a rated leg, before its standing is re-evaluated. -/
theorem placedSac_carrier (k : Sac) : (placedSac i guarded r k).carriers[i] =
    k.carriers[i].setAccount r.direction (ratedAccount r (k.places guarded) (k.carriers[i].account r.direction)) := by
  simp [placedSac]

theorem setAccount_standing (x : Carrier) (d : LegDir) (a : Account) : (x.setAccount d a).standing = x.standing := by
  cases d <;> rfl

/-- A carrier's standing is written as R145 gives it. -/
def derivedSac (i : Fin 63) (k : Sac) : Sac :=
  { k with carriers := k.carriers.set i.val { k.carriers[i] with standing := k.carriers[i].derived } i.isLt }

theorem rated_outLeg (hd : r.direction = .outLeg) (k : Sac) : k.rated i guarded r = derivedSac i (placedSac i guarded r k) := by
  rw [derivedSac, placedSac_carrier]
  simp [placedSac, Sac.rated, hd]

theorem rated_inLeg (hd : r.direction = .inLeg) (k : Sac) : k.rated i guarded r = placedSac i guarded r k := by
  simp [placedSac, Sac.rated, hd]

end Rating

/-! ### The legs of a context -/

/-- The record of a leg that is rated now. -/
def recordNow (s : State) (leg : Leg) (callRef : BitVec 32) (answer release : Count) (cut : Bool) : ChargeRecord :=
  rateRecord s.clk (s.rte.tariff leg.direction leg.index) leg callRef answer release cut s.sac.sequence s.sac.period

/-- A leg is rated: its reply, SAC after it, and its events in order (R135). -/
theorem rateLeg_eq (s : State) (callRef : BitVec 32) (answer release : Count) (cut : Bool) (leg : Leg) :
    let r := recordNow s leg callRef answer release cut
    s.rateLeg callRef answer release cut leg =
      (⟨leg.direction, leg.index.val + 1, .rated (s.sac.places leg.guarded) r.charge s.sac.sequence⟩,
        State.ratedEvents s.sac leg.index leg.guarded r { s with sac := s.sac.rated leg.index leg.guarded r }) := by
  intro r
  have hplaced := placeRecord_eq s leg.index leg.guarded r rfl
  have hevents := (raises_placedEvents s.sac leg.index leg.guarded r).after (raises_saturatedEvents s.sac leg.index r)
  have hdirection : r.direction = leg.direction := rfl
  unfold State.rateLeg
  dsimp only
  rw [show rateRecord s.clk (s.rte.tariff leg.direction leg.index) leg callRef answer release cut s.sac.sequence s.sac.period = r from rfl,
    ← hdirection, hplaced]
  cases hd : r.direction with
  | inLeg =>
    have hsame : (s.sac.rated leg.index leg.guarded r).carriers[leg.index].standing = s.sac.carriers[leg.index].standing := by
      rw [rated_inLeg hd, placedSac_carrier, setAccount_standing]
    rw [ratedEvents_eq, hsame, rated_inLeg hd, State.standingEvents, if_pos rfl]
    rfl
  | outLeg =>
    have hstanding : (s.sac.rated leg.index leg.guarded r).carriers[leg.index].standing =
        (placedSac leg.index leg.guarded r s.sac).carriers[leg.index].derived := by
      rw [rated_outLeg hd, derivedSac]
      simp
    have hold : (placedSac leg.index leg.guarded r s.sac).carriers[leg.index].standing = s.sac.carriers[leg.index].standing := by
      rw [placedSac_carrier, setAccount_standing]
    -- The standing is written before its event is raised.
    have hset : ∀ u : State, u.setCarrier leg.index { u.sac.carriers[leg.index] with standing := u.sac.carriers[leg.index].derived } =
        { u with sac := derivedSac leg.index u.sac } := fun _ => rfl
    rw [ratedEvents_eq, hstanding, rated_outLeg hd, ← hold]
    dsimp only
    rw [reevaluate_eq, hset, raises_modifySac hevents, hevents.sac]
    rfl

/-- A leg's rating by the clock, the tariffs and SAC alone. -/
theorem rateLeg_second {s u : State} {k : Sac} (hclk : u.clk = s.clk) (hrte : u.rte = s.rte) (hsac : u.sac = k) (callRef : BitVec 32)
    (answer release : Count) (cut : Bool) (leg : Leg) :
    let r := rateRecord s.clk (s.rte.tariff leg.direction leg.index) leg callRef answer release cut k.sequence k.period
    u.rateLeg callRef answer release cut leg =
      (⟨leg.direction, leg.index.val + 1, .rated (k.places leg.guarded) r.charge k.sequence⟩,
        State.ratedEvents k leg.index leg.guarded r { u with sac := k.rated leg.index leg.guarded r }) := by
  subst hsac
  rw [← hclk, ← hrte]
  exact rateLeg_eq u callRef answer release cut leg

/-- SAC after a leg ends unanswered (R45, R142, R161). -/
def unansweredSac (leg : Leg) (k : Sac) : Sac :=
  { k with
    carriers := k.carriers.set leg.index.val (k.carriers[leg.index].setAccount leg.direction
      { k.carriers[leg.index].account leg.direction with
        unanswered := tallyUp (k.carriers[leg.index].account leg.direction).unanswered }) leg.index.isLt
    guarded := if leg.guarded = true then k.guarded - 1 else k.guarded }

theorem endUnanswered_eq (s : State) (leg : Leg) :
    s.endUnanswered leg = (⟨leg.direction, leg.index.val + 1, .unanswered⟩, { s with sac := unansweredSac leg s.sac }) := by
  simp only [State.endUnanswered, settleGuard_eq]
  rfl

theorem carrierIndex_eq_some {n : Nat} {i : Fin 63} (h : carrierIndex n = some i) : n = i.val + 1 := by
  unfold carrierIndex at h
  split_ifs at h
  cases h
  dsimp only
  omega

/-- The in-leg as it is rated. -/
def inLegOf (x : Context) (i : Fin 63) : Leg := ⟨.inLeg, i, x.inLeg.group, x.inLeg.member, x.inLeg.band, 0, x.inLeg.guarded⟩

/-- An out-leg as it is rated. -/
def outLegOf (x : Context) (o : OutLeg) (i : Fin 63) : Leg := ⟨.outLeg, i, o.group, o.member, o.band, x.bypass, o.guarded⟩

section ContextLegs
variable {x : Context} {o : OutLeg} {i : Fin 63}

theorem ratedIn_none (h : x.carrierOn .inLeg = none) : x.ratedIn = [] := by
  have hcarrier : carrierIndex x.inLeg.carrier = none := h
  rw [Context.ratedIn, hcarrier]

theorem ratedIn_some (h : x.carrierOn .inLeg = some i) : x.ratedIn = [inLegOf x i] := by
  have hcarrier : carrierIndex x.inLeg.carrier = some i := h
  rw [Context.ratedIn, hcarrier]
  rfl

theorem ratedOut_none (h : x.carrierOn .outLeg = none) : x.ratedOut = [] := by
  unfold Context.ratedOut
  cases ho : x.outLeg with
  | none => rfl
  | some o =>
    have hcarrier : carrierIndex o.carrier = none := by simpa [Context.carrierOn, ho] using h
    simp only [hcarrier]

theorem ratedOut_some (ho : x.outLeg = some o) (h : x.carrierOn .outLeg = some i) : x.ratedOut = [outLegOf x o i] := by
  have hcarrier : carrierIndex o.carrier = some i := by simpa [Context.carrierOn, ho] using h
  simp only [Context.ratedOut, ho, hcarrier]
  rfl

/-- The legs of an ANSWERED context are rated one after the other (R44, R135). -/
theorem ratedInto_endLegs (s : State) {stamp : Count} (hstate : x.state = .answered) (hstamp : x.answerStamp = some stamp)
    (release : Count) (cut : Bool) :
    x.RatedInto stamp release cut s fun entries sac events =>
      Raises events ∧ s.endLegs x release cut = (entries, events { s with sac }) := by
  have hend : s.endLegs x release cut = handLegs (State.rateLeg x.callRef stamp release cut) (x.ratedIn ++ x.ratedOut) s := by
    rw [State.endLegs, if_pos hstate, hstamp]
    rfl
  refine ⟨fun hin hout => ?neither, fun i hin hout => ?onlyIn, fun o i ho hin hout => ?onlyOut, fun o i j ho hin hout => ?both⟩
  case neither =>
    refine ⟨.none, ?_⟩
    rw [hend, ratedIn_none hin, ratedOut_none hout]
    rfl
  case onlyIn =>
    refine ⟨raises_ratedEvents _ _ _ _, ?_⟩
    rw [hend, ratedIn_some hin, ratedOut_none hout, carrierIndex_eq_some (show carrierIndex x.inLeg.carrier = some i from hin)]
    simp only [List.append_nil, handLegs, rateLeg_eq]
    rfl
  case onlyOut =>
    have hcarrier : carrierIndex o.carrier = some i := by simpa [Context.carrierOn, ho] using hout
    refine ⟨raises_ratedEvents _ _ _ _, ?_⟩
    rw [hend, ratedIn_none hin, ratedOut_some ho hout, carrierIndex_eq_some hcarrier]
    simp only [List.nil_append, handLegs, rateLeg_eq]
    rfl
  case both =>
    have hcarrier : carrierIndex o.carrier = some j := by simpa [Context.carrierOn, ho] using hout
    have hfirst := raises_ratedEvents s.sac i x.inLeg.guarded (recordNow s (inLegOf x i) x.callRef stamp release cut)
    refine ⟨(raises_ratedEvents _ _ _ _).after hfirst, ?_⟩
    rw [hend, ratedIn_some hin, ratedOut_some ho hout, carrierIndex_eq_some (show carrierIndex x.inLeg.carrier = some i from hin),
      carrierIndex_eq_some hcarrier]
    -- The out-leg meets the SAC that the in-leg's rating left.
    have hmerge := fun k => (hfirst.setSac { s with sac := s.sac.rated i x.inLeg.guarded (recordNow s (inLegOf x i) x.callRef stamp release cut) } k).symm
    have hsecond := rateLeg_second ((hfirst.clk _).trans rfl) ((hfirst.rte _).trans rfl) ((hfirst.sac _).trans rfl) (s := s)
      (u := State.ratedEvents s.sac i x.inLeg.guarded (recordNow s (inLegOf x i) x.callRef stamp release cut)
        { s with sac := s.sac.rated i x.inLeg.guarded (recordNow s (inLegOf x i) x.callRef stamp release cut) })
      (k := s.sac.rated i x.inLeg.guarded (recordNow s (inLegOf x i) x.callRef stamp release cut))
      x.callRef stamp release cut (outLegOf x o j)
    dsimp only at hsecond
    rw [hmerge] at hsecond
    simp only [List.cons_append, List.nil_append, handLegs, rateLeg_eq s x.callRef stamp release cut (inLegOf x i)]
    exact (congrArg (fun a : LegReply × State => ([_, a.1], a.2)) hsecond).trans rfl

end ContextLegs

end Sys2Proof.Proofs.Legs


/-! ## RELEASE and the sweep's visit: the ends of a call's circuits and legs (R12, R27, R43, R45, R47) -/

namespace Sys2Proof.Proofs.Releases

open Sys2Proof Sys2Proof.Machine Sys2Proof.Proofs.Circuits Sys2Proof.Proofs.Requests Sys2Proof.Proofs.Legs
open Sys2Proof.Proofs.Steps (busy_or_not)
open Sys2Proof.Proofs.TrunkGroups Sys2Proof.Proofs.ChargeRecords

/-! ### The two circuits of a call -/

/-- An end of a busy circuit: into what `ended` makes of it, then the drain test (R12, R20, R27). -/
structure EndsCircuit (ended : Group → Circuit → Circuit) (finish : Nat → Nat → State → State) : Prop where
  busy : ∀ {s : State} {g m : Nat} {r : Group} {c : Circuit}, s.group? g = some r → r.members[m]? = some c → c.state.isBusy = true →
    finish g m s = (s.setGroup g (drainedAs (r.setCircuit m (ended r c)))).drainEvents g (r.setCircuit m (ended r c))
  idle : ∀ {s : State} {g m : Nat}, (∀ c, s.circuit? g m = some c → c.state.isBusy = false) → finish g m s = s

/-- The two circuits of a call end, the in-leg's first. -/
def finishLegs (finish : Nat → Nat → State → State) (x : Context) (s : State) : State :=
  match x.outLeg with
  | some o => finish o.group o.member (finish x.inLeg.group x.inLeg.member s)
  | none => finish x.inLeg.group x.inLeg.member s

theorem endsCircuit_ordinaryRelease : EndsCircuit releasedAs State.ordinaryRelease := ⟨ordinaryRelease_eq, ordinaryRelease_eq_self⟩

theorem endsCircuit_sweepCircuit : EndsCircuit (fun _ _ => Circuit.fresh) State.sweepCircuit :=
  ⟨sweepCircuit_eq, sweepCircuit_eq_self⟩

theorem releaseLegs_eq (s : State) (x : Context) : s.releaseLegs x = finishLegs State.ordinaryRelease x s := rfl

theorem sweepLegs_eq (s : State) (x : Context) : s.sweepLegs x = finishLegs State.sweepCircuit x s := rfl

section Ends
variable {ended : Group → Circuit → Circuit} {finish : Nat → Nat → State → State} (hends : EndsCircuit ended finish)
include hends

theorem finish_groupOnly (s : State) (g m : Nat) : GroupOnly g s (finish g m s) := by
  rcases busy_or_not s g m with ⟨r, c, hr, hc, hbusy⟩ | hidle
  · rw [hends.busy hr hc hbusy, ← drainTest_setGroup (lt_of_group? hr)]
    exact (GroupOnly.setGroup g s _).trans (drainTest_groupOnly g _)
  · rw [hends.idle hidle]
    exact .refl g s

/-- What the ends of the two circuits leave alone. -/
theorem finishLegs_frame (x : Context) (s : State) :
    CallOnly s (finishLegs finish x s) ∧ (finishLegs finish x s).sac = s.sac ∧ (finishLegs finish x s).rse.dests = s.rse.dests ∧
      (finishLegs finish x s).rse.contexts = s.rse.contexts ∧ GroupsBeside x s (finishLegs finish x s) := by
  obtain ⟨⟨hlnk, hclk, hrte, hsac, hpending⟩, ⟨hdests, hlists, hcontexts, hsweep⟩, ⟨hkinds, helevated⟩, hgroups⟩ :=
    finish_groupOnly hends s x.inLeg.group x.inLeg.member
  have hin : CallOnly s (finish x.inLeg.group x.inLeg.member s) := ⟨hlnk, hclk, hrte, hlists, hsweep, hkinds, helevated, hpending⟩
  unfold finishLegs
  cases ho : x.outLeg with
  | none => exact ⟨hin, hsac, hdests, hcontexts, fun g hg _ => hgroups g hg⟩
  | some o =>
    have hout := finish_groupOnly hends (finish x.inLeg.group x.inLeg.member s) o.group o.member
    obtain ⟨-, ⟨hdests', -, hcontexts', -⟩, -, hgroups'⟩ := id hout
    exact ⟨hin.trans hout.callOnly, (Accounts.groupOnly_sac hout).trans hsac, hdests'.trans hdests, hcontexts'.trans hcontexts,
      fun g hg hother => (hgroups' g (hother o ho)).trans (hgroups g hg)⟩

/-- A group whose busy circuit ended. -/
theorem finish_group? {s : State} {g m : Nat} {r : Group} {c : Circuit} (hr : s.group? g = some r) (hc : r.members[m]? = some c)
    (hbusy : c.state.isBusy = true) : (finish g m s).group? g = some (drainedAs (r.setCircuit m (ended r c))) := by
  rw [hends.busy hr hc hbusy, (Raises.drainEvents _ _).group?]
  exact setGroup_group?_same s g _ (lt_of_group? hr)

/-- The events of the ends, and of what follows them, are those of any state with the same inputs. -/
theorem legsEnded_finishLegs {x : Context} {s u v t : State} {later : State → State} (hctb : v.ctb = s.ctb) (hu : EventInputs u v)
    (hlater : Raises later) (hafter : t.ctb = (finishLegs finish x v).ctb) (hsame : SameEvents (later (finishLegs finish x v)) t) :
    LegsEnded ended x u later s t := by
  intro r c hr hc hbusy after
  have hr' : v.group? x.inLeg.group = some r := (group?_congr hctb _).trans hr
  have hin := finish_group? hends hr' hc hbusy
  have hothers : OtherGroups x.inLeg.group s (finish x.inLeg.group x.inLeg.member v) := fun g hg =>
    ((finish_groupOnly hends v x.inLeg.group x.inLeg.member).2.2.2 g hg).trans (group?_congr hctb g)
  have hinputs : EventInputs (u.drainEvents x.inLeg.group after) (finish x.inLeg.group x.inLeg.member v) := by
    rw [hends.busy hr' hc hbusy]
    exact (Raises.drainEvents _ _).inputs _ _ ⟨hu.enu, hu.slots, hu.phase, hu.count⟩
  refine ⟨fun hnone => ?alone, fun o r' c' ho hr₂ hc' hbusy' => ?both⟩
  case alone =>
    have hfinish : finishLegs finish x v = finish x.inLeg.group x.inLeg.member v := by rw [finishLegs, hnone]
    rw [hfinish] at hafter hsame
    have hevents := hlater.sameEvents hinputs
    exact ⟨(group?_congr hafter _).trans hin, fun g hg => (group?_congr hafter g).trans (hothers g hg),
      hsame.1.trans hevents.1, hsame.2.trans hevents.2⟩
  case both =>
    intro after'
    have hfinish : finishLegs finish x v = finish o.group o.member (finish x.inLeg.group x.inLeg.member v) := by rw [finishLegs, ho]
    have hfound : (finish x.inLeg.group x.inLeg.member v).group? o.group = some r' := by
      rw [← hr₂]
      split_ifs with heq
      · rw [heq]
        exact hin
      · exact hothers o.group heq
    have hout := finish_group? hends hfound hc' hbusy'
    have hothers' : OtherGroups o.group (finish x.inLeg.group x.inLeg.member v) (finishLegs finish x v) := by
      rw [hfinish]
      exact (finish_groupOnly hends _ o.group o.member).2.2.2
    have hinputs' : EventInputs ((u.drainEvents x.inLeg.group after).drainEvents o.group after') (finishLegs finish x v) := by
      rw [hfinish, hends.busy hfound hc' hbusy']
      exact (Raises.drainEvents _ _).inputs _ _ ⟨hinputs.enu, hinputs.slots, hinputs.phase, hinputs.count⟩
    have hevents := hlater.sameEvents hinputs'
    refine ⟨?_, fun hne => ?_, fun g hg hg' => ?_, hsame.1.trans hevents.1, hsame.2.trans hevents.2⟩
    · rw [group?_congr hafter, hfinish]
      exact hout
    · exact ((group?_congr hafter _).trans (hothers' _ (Ne.symm hne))).trans hin
    · exact ((group?_congr hafter g).trans (hothers' g hg')).trans (hothers g hg)

end Ends

/-! ### Legs that end unanswered -/

theorem unansweredSac_account (leg : Leg) (k : Sac) (i : Fin 63) (d : LegDir) :
    (unansweredSac leg k).carriers[i].account d =
      if leg.index = i ∧ leg.direction = d then
        { k.carriers[i].account d with unanswered := min ((k.carriers[i].account d).unanswered + 1) 4294967295 }
      else k.carriers[i].account d := by
  by_cases hi : leg.index = i
  · subst hi
    cases hd : leg.direction <;> cases d <;> simp [unansweredSac, Carrier.setAccount, Carrier.account, tallyUp, Config.tallyMax, hd]
  · have hval : leg.index.val ≠ i.val := fun h => hi (Fin.ext h)
    simp [unansweredSac, hi, hval]

theorem unansweredSac_carrier (leg : Leg) (k : Sac) (i : Fin 63) :
    (unansweredSac leg k).carriers[i] = { k.carriers[i] with
      outAccount := (unansweredSac leg k).carriers[i].outAccount, inAccount := (unansweredSac leg k).carriers[i].inAccount } := by
  by_cases hi : leg.index = i
  · subst hi
    cases hd : leg.direction <;> simp [unansweredSac, Carrier.setAccount, hd]
  · have hval : leg.index.val ≠ i.val := fun h => hi (Fin.ext h)
    simp [unansweredSac, hval]

/-- The legs of a context end unanswered one after the other (R45). -/
theorem handLegs_endUnanswered (legs : List Leg) (s : State) :
    handLegs State.endUnanswered legs s =
      (legs.map fun leg => ⟨leg.direction, leg.index.val + 1, .unanswered⟩,
        { s with sac := legs.foldl (fun k leg => unansweredSac leg k) s.sac }) := by
  induction legs generalizing s with
  | nil => rfl
  | cons leg legs ih => simp only [handLegs, endUnanswered_eq, ih, List.map_cons, List.foldl_cons]

/-- SAC after the chargeable legs of a context end unanswered. -/
def unansweredAfter (x : Context) (k : Sac) : Sac := x.legs.foldl (fun k leg => unansweredSac leg k) k

theorem endLegs_unanswered {x : Context} (hstate : x.state ≠ .answered) (s : State) (release : Count) (cut : Bool) :
    s.endLegs x release cut = (x.unansweredEntries, { s with sac := unansweredAfter x s.sac }) := by
  have hentries : x.legs.map (fun leg => (⟨leg.direction, leg.index.val + 1, .unanswered⟩ : LegReply)) = x.unansweredEntries := by
    rw [Context.legs, List.map_append]
    cases hin : x.carrierOn .inLeg with
    | none =>
      cases hout : x.carrierOn .outLeg with
      | none => simp [ratedIn_none hin, ratedOut_none hout, Context.unansweredEntries, hin, hout]
      | some j =>
        obtain ⟨o, ho, -⟩ := Option.bind_eq_some_iff.1 hout
        simp [ratedIn_none hin, ratedOut_some ho hout, Context.unansweredEntries, hin, hout, outLegOf]
    | some i =>
      cases hout : x.carrierOn .outLeg with
      | none => simp [ratedIn_some hin, ratedOut_none hout, Context.unansweredEntries, hin, hout, inLegOf]
      | some j =>
        obtain ⟨o, ho, -⟩ := Option.bind_eq_some_iff.1 hout
        simp [ratedIn_some hin, ratedOut_some ho hout, Context.unansweredEntries, hin, hout, inLegOf, outLegOf]
  rw [State.endLegs, if_neg hstate, handLegs_endUnanswered, hentries]
  rfl

/-- The account of each chargeable leg counts it, and the places of the guarded ones are given back (R45, R142, R161). -/
theorem endedUnanswered_of {x : Context} {s t : State} (hsac : t.sac = unansweredAfter x s.sac) : EndedUnanswered x s t := by
  unfold EndedUnanswered
  rw [hsac, unansweredAfter, Context.legs]
  generalize s.sac = k
  cases hin : x.carrierOn .inLeg with
  | none =>
    cases hout : x.carrierOn .outLeg with
    | none =>
      rw [ratedIn_none hin, ratedOut_none hout]
      refine ⟨fun i d => ?_, ?_, fun i => rfl⟩
      · cases d <;> simp [hin, hout]
      · cases x.outLeg <;> simp
    | some j =>
      obtain ⟨o, ho, -⟩ := Option.bind_eq_some_iff.1 hout
      rw [ratedIn_none hin, ratedOut_some ho hout]
      refine ⟨fun i d => ?_, ?_, fun i => unansweredSac_carrier _ k i⟩
      · simp only [List.nil_append, List.foldl_cons, List.foldl_nil, unansweredSac_account, outLegOf]
        cases d <;> simp [hin, hout]
        split_ifs <;> simp_all
      · cases hguarded : o.guarded <;> simp [ho, hguarded, unansweredSac, outLegOf]
  | some i₀ =>
    cases hout : x.carrierOn .outLeg with
    | none =>
      rw [ratedIn_some hin, ratedOut_none hout]
      refine ⟨fun i d => ?_, ?_, fun i => unansweredSac_carrier _ k i⟩
      · simp only [List.append_nil, List.foldl_cons, List.foldl_nil, unansweredSac_account, inLegOf]
        cases d <;> simp [hin, hout]
        split_ifs <;> simp_all
      · cases hguarded : x.inLeg.guarded <;> cases x.outLeg <;> simp [hguarded, unansweredSac, inLegOf]
    | some j =>
      obtain ⟨o, ho, -⟩ := Option.bind_eq_some_iff.1 hout
      rw [ratedIn_some hin, ratedOut_some ho hout]
      refine ⟨fun i d => ?_, ?_, fun i => ?_⟩
      · simp only [List.cons_append, List.nil_append, List.foldl_cons, List.foldl_nil, unansweredSac_account, inLegOf, outLegOf]
        cases d <;> simp [hin, hout] <;> split_ifs <;> simp_all
      · cases hguarded : x.inLeg.guarded <;> cases hguarded' : o.guarded <;>
          simp [ho, hguarded, hguarded', unansweredSac, inLegOf, outLegOf]
      · simp only [List.cons_append, List.nil_append, List.foldl_cons, List.foldl_nil]
        rw [unansweredSac_carrier, unansweredSac_carrier]

/-! ### Legs that are rated -/

/-- What a rating depends on, and what follows from what it leads to. -/
theorem ratedInto_imp {x : Context} {stamp release : Count} {cut : Bool} {s u : State} (hclk : u.clk = s.clk) (hrte : u.rte = s.rte)
    (hsac : u.sac = s.sac) {ends ends' : List LegReply → Sac → (State → State) → Prop}
    (himp : ∀ entries sac events, ends entries sac events → ends' entries sac events)
    (h : x.RatedInto stamp release cut u ends) : x.RatedInto stamp release cut s ends' := by
  unfold Context.RatedInto at h ⊢
  rw [hclk, hrte, hsac] at h
  obtain ⟨hneither, hin, hout, hboth⟩ := h
  exact ⟨fun a b => himp _ _ _ (hneither a b), fun i a b => himp _ _ _ (hin i a b), fun o i a b c => himp _ _ _ (hout o i a b c),
    fun o i j a b c => himp _ _ _ (hboth o i j a b c)⟩

theorem raises_callOnly {f : State → State} (hf : Raises f) (s : State) : CallOnly s (f s) := by
  obtain ⟨_, _, -, hs⟩ := hf.only s
  rw [hs]
  exact ⟨rfl, rfl, rfl, rfl, rfl, rfl, rfl, rfl⟩

/-! ### RELEASE -/

section Release
variable {s t : State} {h : Handed} {n : Nat} {x : Context} {entries : List LegReply} {sac : Sac} {events : State → State}

/-- The state that RELEASE leaves: the circuits ended, the legs' ends in SAC with their events, and the context FREE (R43). -/
def releasedFrom (x : Context) (n : Nat) (sac : Sac) (events : State → State) (s : State) : State :=
  (events { s.releaseLegs x with sac := sac }).freeContext n

theorem exec_release (ht : Taken s (.release n) h) (hn : n ≤ 4095) (hx : s.context? n = some x)
    (hend : ((s.withHanded h).releaseLegs x).endLegs x h.arrival false =
      (entries, events { (s.withHanded h).releaseLegs x with sac := sac })) :
    exec (.release n) s = .next ((releasedFrom x n sac events (s.withHanded h)).place 0x07 h.tag (.accepted (.released entries))) := by
  have hvalid : ¬ 4095 < n := by omega
  have hx' : (s.withHanded h).context? n = some x := hx
  refine congrArg Host.Outcome.next (serve_act ht false ?_)
  simp only [release, hvalid, if_false, hx', hend]
  rfl

/-- What RELEASE leaves and what it leaves alone. -/
theorem released_frame (ht : Taken s (.release n) h) (hn : n ≤ 4095) (hx : s.context? n = some x) (hevents : Raises events)
    (hend : ((s.withHanded h).releaseLegs x).endLegs x h.arrival false =
      (entries, events { (s.withHanded h).releaseLegs x with sac := sac })) :
    ∃ t, exec (.release n) s = .next t ∧ t.lnk = s.lnk.answered 0x07 h.tag (.accepted (.released entries)) ∧ t.sac = sac ∧
      t.context? n = none ∧ OtherContexts n s t ∧ LegsEnded releasedAs x s events s t ∧ GroupsBeside x s t ∧
      t.rse.dests = s.rse.dests ∧ t.rse.lists = s.rse.lists ∧ t.rse.sweep = s.rse.sweep ∧ t.enu.kinds = s.enu.kinds ∧
      t.enu.elevated = s.enu.elevated ∧ t.clk = s.clk ∧ t.rte = s.rte ∧ t.pending = s.pending := by
  obtain ⟨hcall, -, hdests, hcontexts, hgroups⟩ := finishLegs_frame endsCircuit_ordinaryRelease x (s.withHanded h)
  have hctb := hevents.ctb { finishLegs State.ordinaryRelease x (s.withHanded h) with sac := sac }
  have hall := hevents.contexts { finishLegs State.ordinaryRelease x (s.withHanded h) with sac := sac }
  obtain ⟨hlnk, hclk, hrte, hlists, hsweep, hkinds, helevated, hpending⟩ :=
    hcall.trans (raises_callOnly hevents { finishLegs State.ordinaryRelease x (s.withHanded h) with sac := sac })
  refine ⟨_, exec_release ht hn hx hend, place_answered hlnk h.tag, hevents.sac _, freeContext_context?_same _ n, fun k hk => ?_,
    legsEnded_finishLegs (v := s.withHanded h) endsCircuit_ordinaryRelease rfl ⟨rfl, rfl, rfl, rfl⟩ hevents hctb
      (hevents.sameEvents ⟨rfl, rfl, rfl, rfl⟩),
    fun g hg hother => (group?_congr hctb g).trans (hgroups g hg hother), (hevents.dests _).trans hdests, hlists, hsweep, hkinds,
    helevated, hclk, hrte, hpending⟩
  exact (freeContext_context?_other _ n k hk).trans (context?_congr (hall.trans hcontexts) k)

end Release

/-- Settles O36: the legs end unanswered in the SAC that the circuits' ends leave. -/
theorem releaseCountsUnansweredLegs : Obligations.ReleaseCountsUnansweredLegs := by
  intro s h n x ht hn hx hstate
  obtain ⟨-, hsac, -⟩ := finishLegs_frame endsCircuit_ordinaryRelease x (s.withHanded h)
  have hend := endLegs_unanswered hstate ((s.withHanded h).releaseLegs x) h.arrival false
  obtain ⟨t, hexec, hlnk, hsac', hframe⟩ := released_frame (events := id) ht hn hx .none hend
  exact ⟨t, hexec, hlnk, endedUnanswered_of (hsac'.trans (congrArg (unansweredAfter x) hsac)), hframe⟩

/-- Settles O37: the legs are rated with the clock, the tariffs and the SAC that the circuits' ends leave alone. -/
theorem releaseRatesTheOutLeg : Obligations.ReleaseRatesTheOutLeg := by
  intro s h n x stamp ht hn hx hstate hstamp
  obtain ⟨⟨-, hclk, hrte, -⟩, hsac, -⟩ := finishLegs_frame endsCircuit_ordinaryRelease x (s.withHanded h)
  refine ratedInto_imp (s := s) (u := (s.withHanded h).releaseLegs x) hclk hrte hsac ?_
    (ratedInto_endLegs ((s.withHanded h).releaseLegs x) hstate hstamp h.arrival false)
  rintro entries sac events ⟨hevents, hend⟩
  exact released_frame ht hn hx hevents hend

end Sys2Proof.Proofs.Releases


/-! ## The sweep's visit (R27, R47, R48) -/

namespace Sys2Proof.Proofs.Releases

open Sys2Proof Sys2Proof.Machine Sys2Proof.Proofs.Circuits Sys2Proof.Proofs.Requests Sys2Proof.Proofs.Legs
open Sys2Proof.Proofs.Steps (busy_or_not)
open Sys2Proof.Proofs.TrunkGroups Sys2Proof.Proofs.ChargeRecords

/-! ### The circuits that the sweep idles -/

section Circuits
variable {s : State} {g m k l : Nat} {c : Circuit}

theorem drainedAs_members (r : Group) : (drainedAs r).members = r.members := by
  unfold drainedAs
  split <;> rfl

theorem sweepCircuit_circuit?_other (h : ¬ (g = k ∧ m = l)) : (s.sweepCircuit g m).circuit? k l = s.circuit? k l := by
  rcases busy_or_not s g m with ⟨r, c, hr, hc, hbusy⟩ | hidle
  · by_cases hk : k = g
    · subst hk
      have hl : m ≠ l := fun hl => h ⟨rfl, hl⟩
      rw [circuit?_eq (finish_group? endsCircuit_sweepCircuit hr hc hbusy), circuit?_eq hr, drainedAs_members]
      exact List.getElem?_set_ne hl
    · unfold State.circuit?
      rw [(finish_groupOnly endsCircuit_sweepCircuit s g m).2.2.2 k hk]
  · rw [sweepCircuit_eq_self hidle]

theorem sweepCircuit_circuit?_same (hc : s.circuit? g m = some c) (hbusy : c.state.isBusy = true) :
    (s.sweepCircuit g m).circuit? g m = some Circuit.fresh := by
  obtain ⟨r, hr, hm⟩ := circuit?_eq_some_iff.1 hc
  have hlt := (List.getElem?_eq_some_iff.1 hm).1
  rw [circuit?_eq (finish_group? endsCircuit_sweepCircuit hr hm hbusy), drainedAs_members]
  exact List.getElem?_set_self hlt

theorem sweepCircuit_fresh (hc : s.circuit? k l = some Circuit.fresh) (g m : Nat) :
    (s.sweepCircuit g m).circuit? k l = some Circuit.fresh := by
  by_cases hsame : g = k ∧ m = l
  · obtain ⟨rfl, rfl⟩ := hsame
    have hidle : ∀ c, s.circuit? g m = some c → c.state.isBusy = false := by
      rw [hc]
      rintro c ⟨⟩
      rfl
    rw [sweepCircuit_eq_self hidle, hc]
  · rw [sweepCircuit_circuit?_other hsame, hc]

/-- A leg of a context stands at a circuit. -/
def LegAt (x : Context) (g m : Nat) : Prop :=
  (x.inLeg.group = g ∧ x.inLeg.member = m) ∨ ∃ o, x.outLeg = some o ∧ o.group = g ∧ o.member = m

theorem sweepLegs_circuit?_leg {x : Context} (hc : s.circuit? g m = some c) (hleg : LegAt x g m) (hbusy : c.state.isBusy = true) :
    (s.sweepLegs x).circuit? g m = some Circuit.fresh := by
  by_cases hin : x.inLeg.group = g ∧ x.inLeg.member = m
  · obtain ⟨rfl, rfl⟩ := hin
    have hfresh := sweepCircuit_circuit?_same hc hbusy
    rw [sweepLegs_eq]
    unfold finishLegs
    split
    · exact sweepCircuit_fresh hfresh _ _
    · exact hfresh
  · obtain ⟨o, ho, rfl, rfl⟩ := hleg.resolve_left hin
    have hsame : (s.sweepCircuit x.inLeg.group x.inLeg.member).circuit? o.group o.member = some c := by
      rw [sweepCircuit_circuit?_other hin, hc]
    rw [sweepLegs_eq, finishLegs, ho]
    exact sweepCircuit_circuit?_same hsame hbusy

theorem sweepLegs_circuit?_other {x : Context} (hleg : ¬ LegAt x g m) : (s.sweepLegs x).circuit? g m = s.circuit? g m := by
  have hin : ¬ (x.inLeg.group = g ∧ x.inLeg.member = m) := fun h => hleg (.inl h)
  rw [sweepLegs_eq]
  unfold finishLegs
  split
  next o ho =>
    have hout : ¬ (o.group = g ∧ o.member = m) := fun h => hleg (.inr ⟨o, ho, h⟩)
    rw [sweepCircuit_circuit?_other hout, sweepCircuit_circuit?_other hin]
  next => rw [sweepCircuit_circuit?_other hin]

end Circuits

/-! ### The visit -/

section Visit
variable {s : State} {w : Sweep} {x : Context}

/-- The sweep's state after a visit. -/
def visited (w : Sweep) (x : Context) (s : State) : State := (s.visit w x).setSweep (some (w.counted x))

theorem exec_visit (hw : s.rse.sweep = some w) (hnext : w.next < 4096) (hx : s.context? w.next = some x) :
    exec .sweepContextVisit s = .next (visited w x s) := by
  simp only [exec, execSweepContextVisit, hw, show w.next < Config.contexts from hnext, if_true, hx]
  rfl

theorem legs_eq_nil (hin : x.carrierOn .inLeg = none) (hout : x.carrierOn .outLeg = none) : x.legs = [] := by
  rw [Context.legs, ratedIn_none hin, ratedOut_none hout]
  rfl

/-- The circuits of a visited context end as those of the state before, with the events after those of the legs' ends. -/
theorem visited_legsEnded {u : State} (hu : EventInputs u (s.endLegs x w.instant true).2) :
    LegsEnded (fun _ _ => Circuit.fresh) x u id s (visited w x s) :=
  legsEnded_finishLegs (v := (s.endLegs x w.instant true).2.freeContext w.next) endsCircuit_sweepCircuit
    (endLegs_sacOnly s x w.instant true).2.1 ⟨hu.enu, hu.slots, hu.phase, hu.count⟩ .none rfl ⟨rfl, rfl⟩

theorem visited_sac (s : State) (w : Sweep) (x : Context) : (visited w x s).sac = (s.endLegs x w.instant true).2.sac :=
  Accounts.sweepLegs_sac _ x

end Visit

/-- Settles O58: the legs end in SAC, then the context is freed, then its circuits end. -/
theorem sweepVisitFreesTheContext : Obligations.SweepVisitFreesTheContext := by
  intro s w hw hnext
  refine ⟨fun hnone => ?free, fun x hx => ?call⟩
  case free => simp [exec, execSweepContextVisit, hw, hnext, hnone, State.setSweep, Config.contexts]
  case call =>
    intro legOf idled
    obtain ⟨hcall, hctb, hdests, hcontexts, -⟩ := endLegs_sacOnly s x w.instant true
    obtain ⟨hcall', -, hdests', hcontexts', hgroups⟩ :=
      finishLegs_frame endsCircuit_sweepCircuit x ((s.endLegs x w.instant true).2.freeContext w.next)
    obtain ⟨hlnk, hclk, hrte, hlists, -, hkinds, helevated, hpending⟩ := hcall
    obtain ⟨hlnk', hclk', hrte', hlists', -, hkinds', helevated', hpending'⟩ := hcall'
    have hcircuit : ∀ g m, ((s.endLegs x w.instant true).2.freeContext w.next).circuit? g m = s.circuit? g m := fun g m => by
      unfold State.circuit?
      exact congrArg (Option.bind · fun r => r.members[m]?) (group?_congr hctb g)
    refine ⟨visited w x s, exec_visit hw hnext hx,
      (context?_congr hcontexts' _).trans (freeContext_context?_same _ _), fun k hk => ?others, rfl,
      fun g m c hc hleg hbusy => sweepLegs_circuit?_leg ((hcircuit g m).trans hc) hleg hbusy,
      fun g m hleg => (sweepLegs_circuit?_other hleg).trans (hcircuit g m),
      fun g hg hother => (hgroups g hg hother).trans (group?_congr hctb g), fun hstate => ?unanswered, fun stamp hstate hstamp => ?rated,
      fun hin hout => ?uncharged, hdests'.trans hdests, hlists'.trans hlists, hkinds'.trans hkinds, helevated'.trans helevated,
      hlnk'.trans hlnk, hclk'.trans hclk, hrte'.trans hrte, hpending'.trans hpending⟩
    case others =>
      exact ((context?_congr hcontexts' k).trans (freeContext_context?_other _ _ k hk)).trans (context?_congr hcontexts k)
    case unanswered =>
      have hend := endLegs_unanswered hstate s w.instant true
      refine ⟨endedUnanswered_of ?_, visited_legsEnded ?_⟩
      · rw [visited_sac, hend]
      · rw [hend]
        exact ⟨rfl, rfl, rfl, rfl⟩
    case rated =>
      refine ratedInto_imp (u := s) rfl rfl rfl ?_ (ratedInto_endLegs s hstate hstamp w.instant true)
      rintro entries sac events ⟨hevents, hend⟩
      refine ⟨?_, visited_legsEnded ?_⟩
      · rw [visited_sac, hend]
        exact hevents.sac _
      · rw [hend]
        exact hevents.inputs s { s with sac } ⟨rfl, rfl, rfl, rfl⟩
    case uncharged =>
      rw [visited_sac]
      unfold State.endLegs
      rw [legs_eq_nil hin hout]
      split <;> rfl

end Sys2Proof.Proofs.Releases


/-! ## The time a span spends in a period, instant by instant (R112, R113) -/

namespace Sys2Proof.Proofs.Instants

open Sys2Proof Sys2Proof.Machine

/-- The period in force at a ds of day, when boundaries follow a period (R112). -/
def periodFrom (period : Nat) (bs : List (Nat × Nat)) (ds : Nat) : Nat := bs.foldl (fun p b => if 600 * b.1 ≤ ds then b.2 else p) period

theorem periodFrom_cons (period m q : Nat) (bs : List (Nat × Nat)) (ds : Nat) :
    periodFrom period ((m, q) :: bs) ds = periodFrom (if 600 * m ≤ ds then q else period) bs ds := rfl

/-- Before the first boundary the period stays. -/
theorem periodFrom_before {period ds : Nat} {bs : List (Nat × Nat)} (h : ∀ x ∈ bs, ds < 600 * x.1) : periodFrom period bs ds = period := by
  induction bs with
  | nil => rfl
  | cons x bs ih =>
    obtain ⟨m, q⟩ := x
    obtain ⟨hm, hbs⟩ := List.forall_mem_cons.1 h
    rw [periodFrom_cons, if_neg (Nat.not_le.2 hm), ih hbs]

/-- An interval shares one ds more with a span that goes on for one instant of its own. -/
theorem overlapDs_succ {x y a b : Int} (hab : a ≤ b) : overlapDs x y a (b + 1) = overlapDs x y a b + if x ≤ b ∧ b < y then 1 else 0 := by
  unfold overlapDs
  split_ifs <;> omega

/-- What a span has of the pieces of one period on a day that starts at `at0`. -/
def timeOver (at0 : Int) (p : Nat) (a b : Int) (qs : List (Nat × Nat × Nat)) : Nat :=
  (qs.map fun q => if q.2.2 = p then overlapDs (at0 + q.1) (at0 + q.2.1) a b else 0).sum

theorem timeOnDay_eq (c : Clk) (p : Nat) (a b n : Int) :
    c.timeOnDay p a b n = timeOver (n * (Config.day : Int)) p a b
      (pieces 0 (c.schedule (c.dayType n)).start (c.schedule (c.dayType n)).boundaries) := rfl

/-- One instant more counts in the piece it lies in, so in the period of the last boundary at or before it. -/
theorem timeOver_succ (at0 : Int) (p : Nat) {a b : Int} (hab : a ≤ b) (period : Nat) {start : Nat} {bs : List (Nat × Nat)}
    (hasc : (bs.map Prod.fst).Pairwise (· < ·)) (hstart : ∀ x ∈ bs, start ≤ 600 * x.1) (hbs : ∀ x ∈ bs, x.1 ≤ 1439) :
    timeOver at0 p a (b + 1) (pieces start period bs) = timeOver at0 p a b (pieces start period bs) +
      if at0 + start ≤ b ∧ b < at0 + Config.day ∧ periodFrom period bs (b - at0).toNat = p then 1 else 0 := by
  induction bs generalizing start period with
  | nil =>
    by_cases hp : period = p
    · simp [timeOver, pieces, periodFrom, hp, overlapDs_succ hab]
    · simp [timeOver, pieces, periodFrom, hp]
  | cons x bs ih =>
    obtain ⟨m, q⟩ := x
    simp only [List.map_cons, List.pairwise_cons, List.forall_mem_map, List.forall_mem_cons] at hasc hstart hbs
    obtain ⟨hm, hasc⟩ := hasc
    obtain ⟨hs, -⟩ := hstart
    obtain ⟨hm1439, hbs⟩ := hbs
    have hday : 600 * m ≤ Config.day := by simp only [Config.day]; omega
    have hrest := ih q hasc (fun x hx => Nat.mul_le_mul_left 600 (hm x hx).le) hbs
    have hcons : ∀ b, timeOver at0 p a b (pieces start period ((m, q) :: bs)) =
        (if period = p then overlapDs (at0 + start) (at0 + (600 * m : Nat)) a b else 0) + timeOver at0 p a b (pieces (600 * m) q bs) :=
      fun _ => rfl
    have hfirst : (if period = p then overlapDs (at0 + start) (at0 + (600 * m : Nat)) a (b + 1) else 0) =
        (if period = p then overlapDs (at0 + start) (at0 + (600 * m : Nat)) a b else 0) +
          if at0 + start ≤ b ∧ b < at0 + (600 * m : Nat) ∧ period = p then 1 else 0 := by
      by_cases hp : period = p <;> simp [hp, overlapDs_succ hab]
    rw [hcons, hcons, hrest, hfirst, periodFrom_cons, Nat.add_add_add_comm]
    congr 1
    by_cases hbefore : b < at0 + (600 * m : Nat)
    · -- The instant lies in the first piece, or before the day's part.
      have hrestOf : ¬ (at0 + (600 * m : Nat) ≤ b ∧ b < at0 + Config.day ∧ periodFrom q bs (b - at0).toNat = p) := by omega
      rw [if_neg hrestOf, Nat.add_zero]
      refine if_congr ?_ rfl rfl
      rw [and_congr_right_iff]
      intro hin
      have hds : ¬ 600 * m ≤ (b - at0).toNat := by omega
      have hlater : ∀ x ∈ bs, (b - at0).toNat < 600 * x.1 := fun x hx => by
        have := hm x hx
        omega
      have hin' : b < at0 + Config.day := by omega
      rw [if_neg hds, periodFrom_before hlater]
      exact and_congr_left' (iff_of_true hbefore hin')
    · -- The instant lies in the day's part from the boundary on, or after the day.
      have hfirstOf : ¬ (at0 + start ≤ b ∧ b < at0 + (600 * m : Nat) ∧ period = p) := fun h => hbefore h.2.1
      have hds : 600 * m ≤ (b - at0).toNat := by omega
      rw [if_neg hfirstOf, Nat.zero_add, if_pos hds]
      exact if_congr (and_congr_left' (iff_of_true (by omega) (by omega))) rfl rfl

/-- A further instant counts on the day it lies on, in the period in force at it. -/
theorem timeOnDay_succ {c : Clk} (hasc : ∀ x, x = c.work ∨ x = c.rest → (x.boundaries.map Prod.fst).Pairwise (· < ·))
    (hbs : ∀ x, x = c.work ∨ x = c.rest → ∀ b ∈ x.boundaries, b.1 ≤ 1439) (p : Nat) {a b : Int} (hab : a ≤ b) (n : Int) :
    c.timeOnDay p a (b + 1) n = c.timeOnDay p a b n + if dayOf b = n ∧ c.periodAt b = p then 1 else 0 := by
  have hschedule : c.schedule (c.dayType n) = c.work ∨ c.schedule (c.dayType n) = c.rest := by
    cases c.dayType n
    · exact .inl rfl
    · exact .inr rfl
  rw [timeOnDay_eq, timeOnDay_eq, timeOver_succ _ p hab _ (hasc _ hschedule) (by simp) (hbs _ hschedule)]
  congr 1
  refine if_congr ?_ rfl rfl
  have hday : (n * (Config.day : Int) + (0 : Nat) ≤ b ∧ b < n * (Config.day : Int) + Config.day) ↔ dayOf b = n := by
    simp only [dayOf, Config.day]
    omega
  rw [← and_assoc, hday, and_congr_right_iff]
  rintro rfl
  have hds : (b - dayOf b * (Config.day : Int)).toNat = dsOf b := by
    simp only [dayOf, dsOf, Config.day]
    omega
  rw [hds]
  rfl

/-- Settles O40: each instant of the span counts once, on its own day. -/
theorem periodTimesCountInstants : Obligations.PeriodTimesCountInstants := by
  intro c a len p hlen hsound
  -- The instants' offsets are the natural numbers below the length, as integers.
  have hmap : ∀ l : List Nat, (l >>= fun k => pure (k : Int)) = l.map Nat.cast := fun l => (List.map_eq_flatMap ..).symm
  rw [hmap]
  induction len with
  | zero =>
    have hempty : ∀ x y, overlapDs x y a a = 0 := fun x y => by
      unfold overlapDs
      omega
    have hnone : ∀ n, c.timeOnDay p a a n = 0 := fun n => by simp [timeOnDay_eq, timeOver, hempty]
    simp [Clk.timeIn, hnone]
  | succ len ih =>
    have hasc := fun x hx => (hsound x hx).1
    have hbs := fun x hx b hb => ((hsound x hx).2 b hb).2
    have hinstant := timeOnDay_succ (c := c) hasc hbs p (show a ≤ a + (len : Int) by omega)
    have hcast : a + ((len + 1 : Nat) : Int) = a + (len : Int) + 1 := by omega
    have hdays : dayOf (a + (len : Int)) = dayOf a ∨ dayOf (a + (len : Int)) = dayOf a + 1 := by
      simp only [dayOf, Config.day]
      omega
    have hcount : c.timeIn a (len + 1) p = c.timeIn a len p + if c.periodAt (a + (len : Int)) = p then 1 else 0 := by
      simp only [Clk.timeIn, hcast, hinstant]
      rcases hdays with hday | hday <;> simp [hday] <;> omega
    rw [hcount, ih (by omega), List.range_succ, List.map_append, List.filter_append, List.length_append]
    congr 1
    by_cases hp : c.periodAt (a + (len : Int)) = p <;> simp [hp]

end Sys2Proof.Proofs.Instants


/-! ## Calls: what a command other than a call's leaves of the circuits held and the contexts (R6, R9, R30) -/

namespace Sys2Proof.Proofs.Agreement

open Sys2Proof Sys2Proof.Machine Sys2Proof.Proofs.Circuits Sys2Proof.Proofs.Requests Sys2Proof.Proofs.ChargeRecords
open Sys2Proof.Proofs.TrunkGroups Sys2Proof.Proofs.Steps
open Sys2Proof.Proofs.Timers (settleGuard_eq mapGroups_group?)

/-! ### The circuits that are held -/

/-- What a busy circuit says of its call: its state and the context it names. -/
def held (c : Circuit) : Option (CircuitState × Option Nat) := if c.state.isBusy = true then some (c.state, c.context) else none

/-- What the circuit at a place says of its call, if it is there and busy. -/
def heldAt (s : State) (g m : Nat) : Option (CircuitState × Option Nat) := (s.circuit? g m).bind held

/-- Two records of a group whose circuits say the same of their calls. -/
def SameHeld (r r' : Group) : Prop := ∀ m : Nat, r'.members[m]?.bind held = r.members[m]?.bind held

theorem held_of_idle {c : Circuit} (h : c.state.isBusy = false) : held c = none := if_neg (Bool.eq_false_iff.1 h)

theorem sameHeld_of_members {r r' : Group} (h : r'.members = r.members) : SameHeld r r' := fun m => by rw [h]

/-- One circuit replaced by one that says the same. -/
theorem sameHeld_setCircuit {r : Group} {m : Nat} {c d : Circuit} (hc : r.members[m]? = some c) (h : held d = held c) :
    SameHeld r (r.setCircuit m d) := by
  intro k
  by_cases hk : m = k
  · subst hk
    rw [Group.setCircuit, List.getElem?_set_self (List.getElem?_eq_some_iff.1 hc).1, hc]
    exact h
  · rw [Group.setCircuit, List.getElem?_set_ne hk]

/-- Every circuit changed, and saying the same. -/
theorem sameHeld_map {r r' : Group} {f : Circuit → Circuit} (hf : ∀ c, held (f c) = held c) (h : r'.members = r.members.map f) :
    SameHeld r r' := by
  intro m
  rw [h, List.getElem?_map]
  cases r.members[m]? with
  | none => rfl
  | some c => exact hf c

theorem heldAt_congr {s t : State} (h : t.ctb = s.ctb) (g m : Nat) : heldAt t g m = heldAt s g m := by
  unfold heldAt State.circuit?
  rw [group?_congr h]

theorem heldAt_eq {s : State} {g : Nat} {r : Group} (hr : s.group? g = some r) (m : Nat) : heldAt s g m = r.members[m]?.bind held := by
  rw [heldAt, circuit?_eq hr]

theorem heldAt_undefined {s : State} {g : Nat} (hr : s.group? g = none) (m : Nat) : heldAt s g m = none := by
  simp [heldAt, State.circuit?, hr]

/-! ### Changes that leave every call as it was -/

/-- The contexts, the sweep and what the circuits say of their calls are as they were, the guarded count too, and no record is
added. -/
structure Calm (s t : State) : Prop where
  contexts : t.rse.contexts = s.rse.contexts
  sweep : t.rse.sweep = s.rse.sweep
  guarded : t.sac.guarded = s.sac.guarded
  records : t.sac.records.length ≤ s.sac.records.length
  held : ∀ g m, heldAt t g m = heldAt s g m

namespace Calm

theorem refl {s : State} : Calm s s := ⟨rfl, rfl, rfl, le_refl _, fun _ _ => rfl⟩

theorem trans {s t u : State} (h : Calm s t) (h' : Calm t u) : Calm s u :=
  ⟨h'.contexts.trans h.contexts, h'.sweep.trans h.sweep, h'.guarded.trans h.guarded, h'.records.trans h.records,
    fun g m => (h'.held g m).trans (h.held g m)⟩

/-- The last of two changes first, so that its state fixes the one before. -/
theorem after {s t u : State} (h' : Calm t u) (h : Calm s t) : Calm s u := h.trans h'

/-- A change beside the circuits and the contexts. -/
theorem beside {s t : State} (hctb : t.ctb = s.ctb) (hcontexts : t.rse.contexts = s.rse.contexts) (hsweep : t.rse.sweep = s.rse.sweep)
    (hguarded : t.sac.guarded = s.sac.guarded) (hrecords : t.sac.records.length ≤ s.sac.records.length) : Calm s t :=
  ⟨hcontexts, hsweep, hguarded, hrecords, heldAt_congr hctb⟩

theorem of_raises {f : State → State} (hf : Raises f) (s : State) : Calm s (f s) :=
  beside (hf.ctb s) (hf.contexts s) (hf.sweep s) (by rw [hf.sac]) (by rw [hf.sac])

theorem raise (s : State) (e : Event) : Calm s (s.raise e) := of_raises (.event e) s

section Groups
variable {s : State} {g : Nat}

theorem setGroup {r r' : Group} (hr : s.group? g = some r) (h : SameHeld r r') : Calm s (s.setGroup g r') := by
  refine ⟨rfl, rfl, rfl, le_refl _, fun k m => ?_⟩
  by_cases hk : k = g
  · subst hk
    rw [heldAt_eq (setGroup_group?_same s k r' (lt_of_group? hr)), heldAt_eq hr, h]
  · unfold heldAt State.circuit?
    rw [setGroup_group?_other s g k r' hk]

theorem changeGroup {f : Group → Group} (h : ∀ r, s.group? g = some r → SameHeld r (f r)) : Calm s (s.changeGroup g f) := by
  cases hr : s.group? g with
  | none =>
    rw [changeGroup_undefined hr]
    exact refl
  | some r =>
    rw [changeGroup_eq hr]
    exact setGroup hr (h r hr)

theorem countTally (s : State) (g : Nat) (f : Tallies → Tallies) : Calm s (s.countTally g f) :=
  changeGroup fun _ _ => sameHeld_of_members rfl

theorem setScore (s : State) (g n : Nat) : Calm s (s.setScore g n) := by
  cases hr : s.group? g with
  | none =>
    simp only [State.setScore, hr]
    exact refl
  | some r =>
    have hset : Calm s (s.setGroup g { r with score := n }) := setGroup hr (sameHeld_of_members rfl)
    rw [setScore_eq hr]
    split_ifs
    · exact hset
    · exact hset.trans (raise _ _)

theorem enterBlocked (s : State) (g : Nat) : Calm s (s.enterBlocked g) :=
  (raise _ _).after ((setScore _ _ _).after (changeGroup fun _ _ => sameHeld_of_members rfl))

theorem mapGroups {f : Group → Group} (h : ∀ r, SameHeld r (f r)) : Calm s (s.mapGroups f) := by
  refine ⟨rfl, rfl, rfl, le_refl _, fun k m => ?_⟩
  cases hr : s.group? k with
  | none => rw [heldAt_undefined hr, heldAt_undefined (by rw [mapGroups_group?, hr]; rfl)]
  | some r => rw [heldAt_eq hr, heldAt_eq (by rw [mapGroups_group?, hr]; rfl), h r]

theorem setCircuit {m : Nat} {r : Group} {c d : Circuit} (hr : s.group? g = some r) (hc : r.members[m]? = some c) (h : Agreement.held d = Agreement.held c) :
    Calm s (s.setCircuit g m d) := by
  rw [setCircuit_eq hr]
  exact setGroup hr (sameHeld_setCircuit hc h)

end Groups

/-! ### Accounts -/

theorem reevaluate (s : State) (i : Fin 63) : Calm s (s.reevaluate i) := by
  unfold State.reevaluate
  dsimp only
  split_ifs
  · exact refl
  · exact (raise _ _).after (beside rfl rfl rfl rfl (le_refl _))

theorem testLatch (s : State) : Calm s s.testLatch := by
  unfold State.testLatch
  dsimp only
  split_ifs
  · exact refl
  · exact (raise _ _).after (beside rfl rfl rfl rfl (le_refl _))

theorem changeLimits (s : State) (i : Fin 63) (f : Carrier → Carrier) : Calm s (changeLimits i f s).2 :=
  (reevaluate _ i).after (beside rfl rfl rfl rfl (le_refl _))

theorem closeCarrier (s : State) (period : Nat) (i : Fin 63) : Calm s (s.closeCarrier period i) :=
  (reevaluate _ i).after (beside rfl rfl rfl rfl (le_refl _))

end Calm

end Sys2Proof.Proofs.Agreement


/-! ## The commands that leave every call as it was -/

namespace Sys2Proof.Proofs.Agreement

open Sys2Proof Sys2Proof.Machine Sys2Proof.Proofs.Circuits Sys2Proof.Proofs.Requests Sys2Proof.Proofs.ChargeRecords
open Sys2Proof.Proofs.TrunkGroups Sys2Proof.Proofs.Steps Sys2Proof.Proofs.Invariants

namespace Calm
variable (s : State)

/-! ### The requests on groups and circuits -/

theorem groupBlock (g : Nat) : Calm s (groupBlock g s).2 := by
  unfold Machine.groupBlock
  split
  · exact refl
  rename_i r hr
  dsimp only
  split
  · split_ifs
    · exact enterBlocked s g
    · exact setGroup hr (sameHeld_of_members rfl)
  · exact refl
  · exact refl

theorem groupUnblock (g : Nat) : Calm s (groupUnblock g s).2 := by
  unfold Machine.groupUnblock
  split
  · exact refl
  rename_i r hr
  dsimp only
  split
  · exact refl
  · exact setGroup hr (sameHeld_of_members rfl)
  · exact setGroup hr (sameHeld_of_members rfl)

theorem onCircuit {f : Circuit → Circuit} (hf : ∀ c, Agreement.held (f c) = Agreement.held c) (g m : Nat) : Calm s (onCircuit f g m s).2 := by
  unfold Machine.onCircuit
  split
  · exact refl
  rename_i hr
  split
  · exact refl
  · rename_i hc
    exact setCircuit hr hc (hf _)

theorem held_block (c : Circuit) : Agreement.held c.block = Agreement.held c := by
  unfold Circuit.block Agreement.held
  cases h : c.state <;> simp [h, Circuit.blockedWith, CircuitState.isBusy]

theorem held_unblock (c : Circuit) : Agreement.held c.unblock = Agreement.held c := by
  unfold Circuit.unblock Agreement.held
  cases h : c.state <;> simp [h, Circuit.fresh, CircuitState.isBusy]

/-! ### The requests on the routing tables and the slots -/

theorem destSet (digits : DigitField) (list : Nat) : Calm s (destSet digits list s).2 := by
  unfold Machine.destSet
  split
  · exact refl
  split_ifs
  · exact refl
  split
  · exact beside rfl rfl rfl rfl (le_refl _)
  split
  · exact beside rfl rfl rfl rfl (le_refl _)
  · exact refl

theorem destClear (digits : DigitField) : Calm s (destClear digits s).2 := by
  unfold Machine.destClear
  split
  · exact refl
  split
  · exact beside rfl rfl rfl rfl (le_refl _)
  · exact refl

theorem listSet (list : Nat) (entries : List (Nat × Nat)) : Calm s (listSet list entries s).2 := by
  unfold Machine.listSet
  split
  · exact refl
  split
  · exact refl
  · exact beside rfl rfl rfl rfl (le_refl _)

theorem farMark (digits : DigitField) (level duration : Nat) : Calm s (farMark digits level duration s).2 := by
  unfold Machine.farMark
  split
  · exact refl
  split_ifs
  · exact refl
  split
  · exact refl
  · exact beside rfl rfl rfl rfl (le_refl _)

theorem overlaySet (f : OverlayFields) : Calm s (overlaySet f s).2 := by
  unfold Machine.overlaySet
  split
  · split
    · exact refl
    split
    · split_ifs
      · exact refl
      · exact beside rfl rfl rfl rfl (le_refl _)
    all_goals exact refl
  · exact refl

theorem changeSlot (i : Fin 16) (new : SlotState) (cause : OverlayCause) : Calm s (s.changeSlot i new cause) :=
  beside (note_ctb _ _) (by rw [State.changeSlot, note_rse]; rfl) (by rw [State.changeSlot, note_rse]; rfl)
    (by rw [State.changeSlot, note_sac]; rfl) (by rw [State.changeSlot, note_sac]; exact le_refl _)

/-- A slot request changes what its act on the slot changes. -/
theorem onSlot {f : Fin 16 → Slot → State → Option State} (hf : ∀ i x s t, f i x s = some t → Calm s t) (n : Nat) :
    Calm s (onSlot n f s).2 := by
  unfold Machine.onSlot
  split_ifs
  · split
    · rename_i ht
      exact hf _ _ _ _ ht
    · exact refl
  · exact refl

theorem armSlot (i : Fin 16) (x : Slot) (s t : State) (h : armSlot i x s = some t) : Calm s t := by
  unfold Machine.armSlot at h
  split at h <;> cases h
  · split_ifs
    · exact changeSlot s i _ _
    · exact beside rfl rfl rfl rfl (le_refl _)
  · exact refl
  · exact refl

theorem fireSlot (i : Fin 16) (x : Slot) (s t : State) (h : fireSlot i x s = some t) : Calm s t := by
  unfold Machine.fireSlot at h
  split at h <;> cases h
  · exact changeSlot s i _ _
  · exact refl

theorem revertSlot (i : Fin 16) (x : Slot) (s t : State) (h : revertSlot i x s = some t) : Calm s t := by
  unfold Machine.revertSlot at h
  split at h <;> cases h
  · exact refl
  · exact changeSlot s i _ _

theorem disarmSlot (i : Fin 16) (x : Slot) (s t : State) (h : disarmSlot i x s = some t) : Calm s t := by
  unfold Machine.disarmSlot at h
  split at h <;> cases h
  · exact refl
  · exact beside rfl rfl rfl rfl (le_refl _)
  · exact changeSlot s i _ _

/-! ### The requests on tariffs, calendar, accounts and events, and QUERY -/

theorem tariffSet (f : TariffFields) : Calm s (tariffSet f s).2 := by
  have hset : ∀ d i x, Calm s (s.setTariff d i x) := fun d i x => by
    cases d <;> exact beside rfl rfl rfl rfl (le_refl _)
  unfold Machine.tariffSet
  split
  · exact refl
  · exact refl
  · split_ifs
    · exact refl
    · exact hset _ _ _
    · exact refl

theorem calendarSet (day start : Nat) (bs : List (Nat × Nat)) : Calm s (calendarSet day start bs s).2 := by
  unfold Machine.calendarSet
  split
  · exact refl
  split
  · exact refl
  split
  · exact refl
  · exact beside rfl rfl rfl rfl (le_refl _)

theorem weekSet (days : Vector Nat 7) : Calm s (weekSet days s).2 := by
  unfold Machine.weekSet
  split
  · exact refl
  · exact beside rfl rfl rfl rfl (le_refl _)

theorem timeSet (weekday ds rest : Nat) : Calm s (timeSet weekday ds rest s).2 := by
  unfold Machine.timeSet
  split
  · exact refl
  · exact beside rfl rfl rfl rfl (le_refl _)

theorem carrierLimits (carrier watch cap : Nat) : Calm s (carrierLimits carrier watch cap s).2 := by
  unfold Machine.carrierLimits
  split
  · exact refl
  split
  · exact refl
  · exact changeLimits s _ _

theorem carrierBar (carrier flag : Nat) : Calm s (carrierBar carrier flag s).2 := by
  unfold Machine.carrierBar
  split
  · exact refl
  · exact refl
  · exact changeLimits s _ _

theorem guardMode (mode threshold : Nat) : Calm s (guardMode mode threshold s).2 := by
  unfold Machine.guardMode
  split
  · exact refl
  split_ifs
  · exact refl
  · exact (testLatch _).after (beside rfl rfl rfl rfl (le_refl _))

theorem eventConfig (mode : Nat) (mask : BitVec 16) (elevated : Nat) (entries : List (Nat × Nat × Nat)) :
    Calm s (eventConfig mode mask elevated entries s).2 := by
  unfold Machine.eventConfig
  split
  · exact refl
  split_ifs
  · exact refl
  split
  · exact refl
  · exact refl
  · exact beside rfl rfl rfl rfl (le_refl _)

theorem periodClose (carrier : Nat) : Calm s (periodClose carrier s).2 := by
  have hnext : ∀ s : State, Calm s s.nextPeriod := fun _ => beside rfl rfl rfl rfl (le_refl _)
  unfold Machine.periodClose
  split_ifs
  · exact (hnext _).after (List.foldlRecOn (motive := Calm s) _ _ refl fun _ hu i _ => hu.trans (closeCarrier _ _ i))
  · split
    · exact refl
    · exact (hnext _).after (closeCarrier s _ _)

/-- A fetch takes records from the queue. -/
theorem recordsFetch (count : Nat) : Calm s (recordsFetch count s).2 :=
  (testLatch _).after (beside rfl rfl rfl rfl (by simp))

theorem query (target number member clear : Nat) : Calm s (query target number member clear s).2 := by
  unfold Machine.query
  split
  · exact refl
  · unfold queryPart
    split
    · exact refl
    · dsimp only
      split_ifs
      · exact beside rfl rfl rfl rfl (le_refl _)
      · exact refl
  · unfold queryGroup
    split_ifs
    · exact refl
    · split
      · exact refl
      · dsimp only
        split_ifs
        · exact countTally s number _
        · exact refl
  all_goals exact refl

/-! ### Timers and clock -/

theorem guardTimerExpiry (g m : Nat) : ∃ t, exec (.guardTimerExpiry g m) s = .next t ∧ Calm s t := by
  refine ⟨_, rfl, ?_⟩
  split
  · rename_i c hc
    split_ifs with hdue
    · obtain ⟨r, hr, hm⟩ := circuit?_eq_some_iff.1 hc
      exact setCircuit hr hm (by rw [held_of_idle (c := c) (by rw [hdue.1]; rfl)]; rfl)
    · exact refl
  · exact refl

theorem sampleTimerExpiry (g : Nat) : ∃ t, exec (.sampleTimerExpiry g) s = .next t ∧ Calm s t := by
  refine ⟨_, rfl, ?_⟩
  split
  · rename_i hr
    split_ifs
    · exact (setScore _ _ _).after (setGroup hr (sameHeld_of_members rfl))
    · exact refl
  · exact refl

theorem markExpiry (i : Nat) : ∃ t, exec (.markExpiry i) s = .next t ∧ Calm s t := by
  refine ⟨_, rfl, ?_⟩
  split
  · split_ifs
    · exact (raise _ _).after (beside rfl rfl rfl rfl (le_refl _))
    · exact refl
  · exact refl

theorem midnightRollover : ∃ t, exec .midnightRollover s = .next t ∧ Calm s t := by
  refine ⟨_, rfl, ?_⟩
  split_ifs
  · exact beside rfl rfl rfl rfl (le_refl _)
  · exact refl

theorem tick : Calm s s.tick := by
  have hgroups : Calm s (s.mapGroups Group.tick) := mapGroups fun r => sameHeld_map (f := Circuit.tick) (fun _ => rfl) rfl
  have hrest : Calm (s.mapGroups Group.tick) s.tick := beside rfl rfl rfl rfl (le_refl _)
  exact hgroups.trans hrest

theorem endOfDecisecond : ∃ t, exec .endOfDecisecond s = .next t ∧ Calm s t := by
  refine ⟨_, rfl, ?_⟩
  split
  · exact refl
  · exact tick s
  · exact tick s

/-! ### The link -/

theorem link (l : Lnk) : Calm s { s with lnk := l } := beside rfl rfl rfl rfl (le_refl _)

theorem discard (cause : LinkCause) : Calm s (s.discard cause) := (raise _ _).after (link s _)

theorem judgeFrame (r : Receiver) : Calm s (s.judgeFrame r) := by
  unfold State.judgeFrame
  split
  · exact discard s _
  · split_ifs
    · exact discard s _
    · exact link s _

theorem delimiter : Calm s s.delimiter := by
  unfold State.delimiter
  dsimp only
  split_ifs
  · exact link s _
  · exact (judgeFrame _ _).after (link s _)

theorem receive (b : Byte) : Calm s (s.receive b) := by
  unfold State.receive
  split_ifs
  · exact delimiter s
  · exact link s _

theorem frameComplete (wire : List Byte) : ∃ t, exec (.frameComplete wire) s = .next t ∧ Calm s t := by
  have hreceived : Calm s (wire.foldl State.receive s).delimiter :=
    (delimiter _).after (List.foldlRecOn (motive := Calm s) _ _ refl fun _ hu b _ => hu.trans (receive _ b))
  refine ⟨_, rfl, ?_⟩
  split
  · exact refl
  · exact hreceived
  · exact hreceived

theorem takeFrame : ∃ t, exec .takeFrame s = .next t ∧ Calm s t := by
  refine ⟨_, rfl, ?_⟩
  split
  · exact refl
  split_ifs
  · dsimp only
    split
    all_goals exact link s _
  · exact refl

theorem choose : Calm s s.choose :=
  beside (State.choose_ctb s) (by rw [State.choose_rse]) (by rw [State.choose_rse]) (by rw [State.choose_sac]) (by rw [State.choose_sac])

theorem idleChoice : Calm s s.idleChoice :=
  beside (State.idleChoice_ctb s) (by rw [State.idleChoice_rse]) (by rw [State.idleChoice_rse]) (by rw [State.idleChoice_sac])
    (by rw [State.idleChoice_sac])

theorem frameSent : ∃ t, exec .frameSent s = .next t ∧ Calm s t := by
  refine ⟨_, rfl, ?_⟩
  split_ifs
  · exact refl
  · exact (choose _).after (link s _)

theorem startUpClearEnd : ∃ t, exec .startUpClearEnd s = .next t ∧ Calm s t := by
  refine ⟨_, rfl, ?_⟩
  split
  · exact (idleChoice _).after ((raise _ _).after (link s _))
  · exact refl
  · exact refl

end Calm

end Sys2Proof.Proofs.Agreement


/-! ## What a command can do to the calls: every command's effect is a run of changes of one call -/

namespace Sys2Proof.Proofs.Agreement

open Sys2Proof Sys2Proof.Machine Sys2Proof.Proofs.Circuits Sys2Proof.Proofs.Requests Sys2Proof.Proofs.ChargeRecords
open Sys2Proof.Proofs.TrunkGroups Sys2Proof.Proofs.Steps Sys2Proof.Proofs.Selections

/-- A change of one call, of what the circuits say of it, and of its record places. `P` holds where a group is defined or
deleted. -/
inductive CallMove (P : State → Prop) (s : State) : State → Prop
  | calm {t : State} (h : Calm s t) : CallMove P s t
  | define (f : GroupFields) (h : P s) : CallMove P s (groupDefine f s).2
  | relabel {n : Nat} {x y : Context} (hx : s.context? n = some x) (hin : y.inLeg = x.inLeg) (hout : y.outLeg = x.outLeg)
      (hstate : x.outLeg ≠ none → (y.state = .pending ↔ x.state = .pending)) : CallMove P s (s.setContext n y)
  | seize {g m n : Nat} {r : Group} {c : Circuit} (q : BitVec 32) (p : Priority) (hr : s.group? g = some r) (hc : r.members[m]? = some c)
      (hidle : c.state.isBusy = false) (hn : s.takeContext? = some n) (hroom : s.recordBarred r.carrier = false)
      (hsweep : s.rse.sweep = none) : CallMove P s (s.acceptSeizure g m r c q p n)
  | yield {g m n : Nat} {r : Group} {c : Circuit} {x : Context} (q : BitVec 32) (p : Priority) (hr : s.group? g = some r)
      (hc : r.members[m]? = some c) (hstate : c.state = .outPending) (hn : s.takeContext? = some n)
      (hroom : s.recordBarred r.carrier = false) (hsweep : s.rse.sweep = none)
      (hx : (s.acceptSeizure g m r c q p n).context? (c.context.getD 0) = some x) :
      CallMove P s (dropOutLeg (c.context.getD 0) x (s.acceptSeizure g m r c q p n))
  | yieldAlone {g m n : Nat} {r : Group} {c : Circuit} (q : BitVec 32) (p : Priority) (hr : s.group? g = some r)
      (hc : r.members[m]? = some c) (hstate : c.state = .outPending) (hn : s.takeContext? = some n)
      (hroom : s.recordBarred r.carrier = false) (hsweep : s.rse.sweep = none)
      (hx : (s.acceptSeizure g m r c q p n).context? (c.context.getD 0) = none) : CallMove P s (s.acceptSeizure g m r c q p n)
  | grant {n m : Nat} {x : Context} {r : Group} {c : Circuit} (idx : Nat) {e : RouteEntry} (hx : s.context? n = some x)
      (hnone : x.outLeg = none) (hr : s.group? e.group = some r) (hc : r.members[m]? = some c) (hidle : c.state.isBusy = false)
      (hroom : s.recordBarred r.carrier = false) : CallMove P s ((s.setGroup e.group (r.granted n m)).grant n idx e r m)
  | confirm {n : Nat} {x : Context} {o : OutLeg} {r : Group} {c : Circuit} (hx : s.context? n = some x) (hstate : x.state = .pending)
      (ho : x.outLeg = some o) (hr : s.group? o.group = some r) (hc : r.members[o.member]? = some c) :
      CallMove P s ((s.setGroup o.group (r.setCircuit o.member c.confirmed)).setContext n { x with state := .established })
  | fail {n : Nat} {x : Context} {o : OutLeg} (f : FailCause) (hx : s.context? n = some x) (ho : x.outLeg = some o) :
      CallMove P s (s.failAttempt f n o)
  | timeout {g m n : Nat} {c : Circuit} (hc : s.circuit? g m = some c) (hstate : c.state = .outPending) (hn : c.context = some n) :
      CallMove P s ((s.ordinaryRelease g m).timeoutContext n)
  | timeoutAlone {g m : Nat} {c : Circuit} (hc : s.circuit? g m = some c) (hstate : c.state = .outPending) (hn : c.context = none) :
      CallMove P s (s.ordinaryRelease g m)
  | release {n : Nat} {x : Context} (a : Count) (hx : s.context? n = some x) :
      CallMove P s (((s.releaseLegs x).endLegs x a false).2.freeContext n)
  | visit {w : Sweep} {x : Context} (hw : s.rse.sweep = some w) (hx : s.context? w.next = some x) :
      CallMove P s ((s.visit w x).setSweep (some (w.counted x)))
  | pass {w : Sweep} (hw : s.rse.sweep = some w) (hx : s.context? w.next = none) :
      CallMove P s (s.setSweep (some { w with next := w.next + 1 }))
  | begin {w : Sweep} (hw : w.next = 0) : CallMove P s (s.setSweep (some w))
  | complete {w : Sweep} (hw : s.rse.sweep = some w) (hall : ¬ w.next < Config.contexts) : CallMove P s s.restartValues

/-- A run of changes of calls. -/
abbrev CallMoves (P : State → Prop) : State → State → Prop := Relation.ReflTransGen (CallMove P)

/-- Every context has its out-leg exactly in the states of R29. -/
def Shaped (s : State) : Prop := ∀ n x, s.context? n = some x → x.outLeg.isSome = x.state.hasOutLeg

/-- A context that seeks a circuit has no out-leg, whatever its state; every other context is as R29 says. -/
def Hunting (n : Nat) (s : State) : Prop :=
  (∃ x, s.context? n = some x ∧ x.outLeg = none) ∧ ∀ k x, k ≠ n → s.context? k = some x → x.outLeg.isSome = x.state.hasOutLeg

section Shapes
variable {s t : State} {n : Nat} {x y : Context}

theorem Shaped.congr (hs : Shaped s) (h : t.rse.contexts = s.rse.contexts) : Shaped t := fun k x hx =>
  hs k x (by rwa [context?_congr h] at hx)

theorem Hunting.congr (hs : Hunting n s) (h : t.rse.contexts = s.rse.contexts) : Hunting n t := by
  obtain ⟨⟨x, hx, hnone⟩, hothers⟩ := hs
  exact ⟨⟨x, by rwa [context?_congr h], hnone⟩, fun k x hk hx => hothers k x hk (by rwa [context?_congr h] at hx)⟩

theorem Shaped.others (hs : Shaped s) (n : Nat) : ∀ k x, k ≠ n → s.context? k = some x → x.outLeg.isSome = x.state.hasOutLeg :=
  fun k x _ => hs k x

/-- The context is written as R29 says, the others are so already. -/
theorem shaped_setContext (hothers : ∀ k x, k ≠ n → s.context? k = some x → x.outLeg.isSome = x.state.hasOutLeg)
    (hy : y.outLeg.isSome = y.state.hasOutLeg) : Shaped (s.setContext n y) := by
  intro k x hx
  by_cases hk : k = n
  · subst hk
    rw [setContext_context?_same, Option.some_inj] at hx
    exact hx ▸ hy
  · exact hothers k x hk (by rwa [setContext_context?_other s n k y hk] at hx)

theorem hunting_setContext (hothers : ∀ k x, k ≠ n → s.context? k = some x → x.outLeg.isSome = x.state.hasOutLeg)
    (hy : y.outLeg = none) : Hunting n (s.setContext n y) :=
  ⟨⟨y, setContext_context?_same s n y, hy⟩, fun k x hk hx =>
    hothers k x hk (by rwa [setContext_context?_other s n k y hk] at hx)⟩

theorem Shaped.hunting (hs : Shaped s) (hx : s.context? n = some x) (hstate : x.state.hasOutLeg = false) : Hunting n s := by
  have hnone : x.outLeg.isSome = false := (hs n x hx).trans hstate
  exact ⟨⟨x, hx, by simpa using hnone⟩, hs.others n⟩

theorem Shaped.freeContext (hs : Shaped s) (n : Nat) : Shaped (s.freeContext n) := by
  intro k x hx
  by_cases hk : k = n
  · subst hk
    simp at hx
  · exact hs k x (by rwa [freeContext_context?_other s n k hk] at hx)

theorem changeContext_eq (hx : s.context? n = some x) (f : Context → Context) : s.changeContext n f = s.setContext n (f x) := by
  simp [State.changeContext, hx]

end Shapes

variable {P : State → Prop}

theorem CallMoves.refl {s : State} : CallMoves P s s := Relation.ReflTransGen.refl

theorem CallMove.moves {s t : State} (h : CallMove P s t) : CallMoves P s t := Relation.ReflTransGen.single h

theorem CallMoves.after {s t u : State} (hlast : CallMoves P t u) (h : CallMoves P s t) : CallMoves P s u := h.trans hlast

theorem Calm.calls {s t : State} (h : Calm s t) : CallMoves P s t := (CallMove.calm h).moves

/-! ### Selections -/

section Selection
variable {s : State} {n : Nat}

/-- A change of a context without an out-leg, but for its legs. -/
theorem Hunting.relabel (hs : Hunting n s) {f : Context → Context} (hin : ∀ x, (f x).inLeg = x.inLeg)
    (hout : ∀ x, (f x).outLeg = x.outLeg) : CallMoves P s (s.changeContext n f) ∧ Hunting n (s.changeContext n f) := by
  obtain ⟨⟨x, hx, hnone⟩, hothers⟩ := hs
  rw [changeContext_eq hx]
  exact ⟨(CallMove.relabel hx (hin x) (hout x) fun h => absurd hnone h).moves, hunting_setContext hothers ((hout x).trans hnone)⟩

/-- A context without an out-leg is brought to a state that has none. -/
theorem Hunting.ends (hs : Hunting n s) {f : Context → Context} (hin : ∀ x, (f x).inLeg = x.inLeg) (hout : ∀ x, (f x).outLeg = x.outLeg)
    (hstate : ∀ x, (f x).state.hasOutLeg = false) : CallMoves P s (s.changeContext n f) ∧ Shaped (s.changeContext n f) := by
  obtain ⟨⟨x, hx, hnone⟩, hothers⟩ := hs
  rw [changeContext_eq hx]
  exact ⟨(CallMove.relabel hx (hin x) (hout x) fun h => absurd hnone h).moves,
    shaped_setContext hothers (by rw [hout, hnone, hstate]; rfl)⟩

/-- A run that keeps a context hunting. -/
def Hunts (P : State → Prop) (n : Nat) (s t : State) : Prop := CallMoves P s t ∧ Hunting n t

/-- A run that leaves every context as R29 says. -/
def Shapes (P : State → Prop) (s t : State) : Prop := CallMoves P s t ∧ Shaped t

theorem Hunts.then {t u : State} (h : Hunts P n s t) (h' : Hunts P n t u) : Hunts P n s u := ⟨h.1.trans h'.1, h'.2⟩

theorem Hunts.shapes {t u : State} (h : Hunts P n s t) (h' : Shapes P t u) : Shapes P s u := ⟨h.1.trans h'.1, h'.2⟩

theorem Hunting.calm {t : State} (hs : Hunting n s) (h : Calm s t) : Hunts P n s t := ⟨h.calls, hs.congr h.contexts⟩

theorem Shaped.calm {t : State} (hs : Shaped s) (h : Calm s t) : Shapes P s t := ⟨h.calls, hs.congr h.contexts⟩

theorem Shapes.refl (hs : Shaped s) : Shapes P s s := ⟨.refl, hs⟩

/-- What a selection leaves: a grant leaves every context as R29 says, and without one the context is still without an out-leg. -/
def Selects (P : State → Prop) (n : Nat) (s : State) (o : Selection × State) : Prop :=
  (o.1.isGrant = true → Shapes P s o.2) ∧ (o.1.isGrant = false → Hunts P n s o.2)

theorem raiseBypass_hunts (hs : Hunting n s) (level : Nat) : Hunts P n s (s.raiseBypass n level) :=
  hs.relabel (fun _ => rfl) fun _ => rfl

theorem overflow_hunts (hs : Hunting n s) (g : Nat) (r : Group) : Hunts P n s (s.overflow n g r) := by
  have hbypass := raiseBypass_hunts (P := P) hs r.level
  exact hbypass.then (hbypass.2.calm ((Calm.setScore _ _ _).after (Calm.countTally _ _ _)))

/-- A grant gives the context its out-leg (R65). -/
theorem grant_shapes (hs : Hunting n s) {m : Nat} {r : Group} {c : Circuit} (idx : Nat) {e : RouteEntry} (hr : s.group? e.group = some r)
    (hc : r.members[m]? = some c) (hidle : c.state.isBusy = false) (hroom : s.recordBarred r.carrier = false) :
    Shapes P s ((s.setGroup e.group (r.granted n m)).grant n idx e r m) := by
  obtain ⟨⟨x, hx, hnone⟩, hothers⟩ := hs
  refine ⟨(CallMove.grant idx hx hnone hr hc hidle hroom).moves, ?_⟩
  have hx' : ((s.setGroup e.group (r.granted n m)).admitLeg ((s.setGroup e.group (r.granted n m)).guards r.carrier)).context? n = some x := by
    rw [admitLeg_eq]
    exact hx
  rw [State.grant, changeContext_eq hx']
  refine shaped_setContext (fun k y hk hy => hothers k y hk ?_) rfl
  rw [admitLeg_eq] at hy
  exact hy

/-- One entry: a skip leaves the context without an out-leg, a grant gives it one. -/
theorem examine_selects (hs : Hunting n s) (idx : Nat) (p : Priority) (tried : List (Nat × Nat)) (e : RouteEntry) :
    (∀ why, (s.examine n idx p tried e).1 = .inl why → Hunts P n s (s.examine n idx p tried e).2) ∧
      ∀ m, (s.examine n idx p tried e).1 = .inr m → Shapes P s (s.examine n idx p tried e).2 := by
  have hsame : Hunts P n s s := ⟨.refl, hs⟩
  unfold State.examine
  split
  · exact ⟨fun _ _ => hsame, by simp⟩
  rename_i r hr
  split_ifs with _ _ hbarred _
  · exact ⟨fun _ _ => hsame, by simp⟩
  · exact ⟨fun _ _ => hsame, by simp⟩
  · exact ⟨fun _ _ => hsame, by simp⟩
  · exact ⟨fun _ _ => raiseBypass_hunts hs _, by simp⟩
  cases hfind : r.huntSequence.find? (r.eligible e.group tried) with
  | some m =>
    obtain ⟨c, hc, hstate, -⟩ := eligible_iff.1 (List.find?_some hfind)
    rw [hunt_found n hfind]
    exact ⟨by simp, fun _ _ => grant_shapes hs idx hr hc (by rw [hstate]; rfl) (Bool.eq_false_iff.2 hbarred)⟩
  | none =>
    have hcounted := hs.calm (P := P) (Calm.setGroup hr (sameHeld_of_members
      (r' := { r with tallies := { r.tallies with attempts := tallyUp r.tallies.attempts } }) rfl))
    rw [hunt_nothing n hfind]
    exact ⟨fun _ _ => hcounted.then (overflow_hunts hcounted.2 _ _), by simp⟩

theorem walk_selects (hs : Hunting n s) (p : Priority) (tried : List (Nat × Nat)) (idx : Nat) (es : List RouteEntry) (k : Skips) :
    Selects P n s (s.walk n p tried idx es k) := by
  induction es generalizing idx k s with
  | nil => exact ⟨by simp [State.walk, Selection.isGrant], fun _ => ⟨.refl, hs⟩⟩
  | cons e es ih =>
    obtain ⟨hskip, hgrant⟩ := examine_selects (P := P) hs idx p tried e
    unfold State.walk
    split <;> rename_i hexamine <;> rw [hexamine] at hskip hgrant
    · exact ⟨fun _ => hgrant _ rfl, by simp [Selection.isGrant]⟩
    · have hskipped := hskip _ rfl
      obtain ⟨hgranted, hnot⟩ := ih hskipped.2 (idx + 1) (k.count _)
      exact ⟨fun h => hskipped.shapes (hgranted h), fun h => hskipped.then (hnot h)⟩

/-- What follows a run that keeps the context hunting. -/
theorem Hunts.selects {t : State} {o : Selection × State} (h : Hunts P n s t) (ho : Selects P n t o) : Selects P n s o :=
  ⟨fun hgrant => h.shapes (ho.1 hgrant), fun hnot => h.then (ho.2 hnot)⟩

theorem farGate_hunts (hs : Hunting n s) (i : Nat) (d : Dest) (p : Priority) : Hunts P n s (s.farGate i d p).2 :=
  hs.calm (.beside rfl rfl rfl rfl (le_refl _))

theorem firstSelection_selects (hs : Hunting n s) (c : Context) (g : Progress) (called : List Nat) :
    Selects P n s (s.firstSelection n c g called) := by
  unfold State.firstSelection
  split
  · exact ⟨by simp [Selection.isGrant], fun _ => ⟨.refl, hs⟩⟩
  rename_i i d _
  have hplaced : Hunts P n s (s.changeContext n fun c => { c with destination := some i }) := hs.relabel (fun _ => rfl) fun _ => rfl
  have hgate := hplaced.then (farGate_hunts hplaced.2 i d c.priority)
  dsimp only
  split_ifs
  · exact ⟨by simp [Selection.isGrant], fun _ => hgate⟩
  · have hresolved := fun l => hgate.then (hgate.2.relabel (f := fun c => { c with resolved := some l }) (fun _ => rfl) fun _ => rfl)
    exact (hresolved _).selects (walk_selects (hresolved _).2 _ _ _ _ _)

theorem crankback_selects (hs : Hunting n s) (c : Context) : Selects P n s (s.crankback n c) := by
  unfold State.crankback
  split
  · rename_i i l g _ _ _
    split
    · exact ⟨by simp [Selection.isGrant], fun _ => ⟨.refl, hs⟩⟩
    · rename_i d _
      have hgate := farGate_hunts (P := P) hs i d c.priority
      dsimp only
      split_ifs
      · exact ⟨by simp [Selection.isGrant], fun _ => hgate⟩
      · exact hgate.selects (walk_selects hgate.2 _ _ _ _ _)
  · exact ⟨by simp [Selection.isGrant], fun _ => ⟨.refl, hs⟩⟩

theorem rehunt_selects (hs : Hunting n s) (c : Context) : Selects P n s (rehunt n c s) := by
  unfold rehunt
  split_ifs
  · exact crankback_selects hs c
  · exact ⟨by simp [Selection.isGrant], fun _ => ⟨.refl, hs⟩⟩

/-- A selection that is applied: the grant stands, and without one the context is SPENT (R35). -/
theorem spend_shapes {o : Selection × State} (h : Selects P n s o) : Shapes P s (o.2.spend n o.1) := by
  unfold State.spend
  split_ifs with hgrant
  · exact h.1 hgrant
  · have hnot := h.2 (Bool.eq_false_iff.2 hgrant)
    exact hnot.shapes (hnot.2.ends (f := fun c => { c with state := .spent, haltCause := none }) (fun _ => rfl) (fun _ => rfl) fun _ => rfl)

theorem continueFrom_shapes (hs : Hunting n s) (c : Context) : Shapes P s (s.continueFrom n c).2 := by
  rw [continueFrom_eq]
  exact spend_shapes (rehunt_selects hs c)

end Selection

end Sys2Proof.Proofs.Agreement


/-! ## What a command can do to the calls: the requests, the sweep and the timers -/

namespace Sys2Proof.Proofs.Agreement

open Sys2Proof Sys2Proof.Machine Sys2Proof.Proofs.Circuits Sys2Proof.Proofs.Requests Sys2Proof.Proofs.ChargeRecords
open Sys2Proof.Proofs.TrunkGroups Sys2Proof.Proofs.Steps Sys2Proof.Proofs.Selections Sys2Proof.Proofs.Calls

variable {P : State → Prop}

theorem Shapes.then {s t u : State} (h : Shapes P s t) (h' : Shapes P t u) : Shapes P s u := ⟨h.1.trans h'.1, h'.2⟩

/-- What a run leaves is changed beside the calls. -/
theorem Shapes.calm {s t u : State} (h : Shapes P s t) (hcalm : Calm t u) : Shapes P s u := h.then (h.2.calm hcalm)

/-! ### SEIZE_IN -/

section Seizures
variable {s : State} {g m n : Nat} {r : Group} {c : Circuit} {q : BitVec 32} {p : Priority}

/-- The newly taken context has no out-leg, as IN_ONLY asks. -/
theorem acceptSeizure_shaped (hs : Shaped s) (hr : s.group? g = some r) : Shaped (s.acceptSeizure g m r c q p n) := by
  have hset : Shaped ((s.setGroup g (r.setCircuit m (c.incoming n))).setContext n (newcomer s g m r q p)) :=
    shaped_setContext ((hs.congr rfl).others n) rfl
  rw [acceptSeizure_eq hr]
  exact hset.congr rfl

theorem dropOutLeg_hunting (hs : Shaped s) (n : Nat) (x : Context) : Hunting n (dropOutLeg n x s) := by
  have hset : Hunting n (s.setContext n (dropped x)) := hunting_setContext (hs.others n) rfl
  exact hset.congr (by rw [dropOutLeg, State.settleGuard_rse])

/-- A glare that this end loses (R25, R41). -/
theorem yieldGlare_shapes (hs : Shaped s) (hr : s.group? g = some r) (hc : r.members[m]? = some c) (hstate : c.state = .outPending)
    (hsweep : s.rse.sweep = none) : Shapes P s (s.yieldGlare g m r c q p).2 := by
  unfold State.yieldGlare
  split
  · exact .refl hs
  rename_i n hn
  split_ifs with hbarred
  · exact .refl hs
  have hroom := Bool.eq_false_iff.2 hbarred
  have haccepted : Shaped (s.acceptSeizure g m r c q p n) := acceptSeizure_shaped hs hr
  have hlost : Shapes P s ((s.acceptSeizure g m r c q p n).loseGlare (c.context.getD 0)).2 := by
    cases hx : (s.acceptSeizure g m r c q p n).context? (c.context.getD 0) with
    | none =>
      rw [loseGlare_none hx]
      exact ⟨(CallMove.yieldAlone q p hr hc hstate hn hroom hsweep hx).moves, haccepted⟩
    | some x =>
      have hdropped : Hunts P (c.context.getD 0) s (dropOutLeg (c.context.getD 0) x (s.acceptSeizure g m r c q p n)) :=
        ⟨(CallMove.yield q p hr hc hstate hn hroom hsweep hx).moves, dropOutLeg_hunting haccepted _ x⟩
      obtain ⟨hgranted, hnot⟩ := hdropped.selects (rehunt_selects hdropped.2 (dropped x))
      rw [loseGlare_eq hx]
      dsimp only
      split_ifs with hgrant
      · exact hgranted hgrant
      · have hhunts := hnot (Bool.eq_false_iff.2 hgrant)
        exact hhunts.shapes (hhunts.2.ends (f := haltedByGlare) (fun _ => rfl) (fun _ => rfl) fun _ => rfl)
  dsimp only
  exact hlost.calm ((Calm.raise _ _).after (Calm.countTally _ _ _))

theorem seizeIn_shapes (hs : Shaped s) (hsweep : s.rse.sweep = none) (g m : Nat) (q : BitVec 32) (p : Nat) :
    Shapes P s (seizeIn g m q p s).2 := by
  unfold seizeIn
  split
  · exact .refl hs
  rename_i r hr
  split
  · exact .refl hs
  rename_i c hc
  split
  · exact .refl hs
  split
  · exact .refl hs
  split
  · exact .refl hs
  -- An IDLE or GUARD circuit is seized when a context is FREE and record room exists.
  have haccepts : ∀ p n, c.state.isBusy = false → s.takeContext? = some n → ¬ s.recordBarred r.carrier = true →
      Shapes P s (s.acceptSeizure g m r c q p n) := fun p n hidle hn hbarred =>
    ⟨(CallMove.seize q p hr hc hidle hn (Bool.eq_false_iff.2 hbarred) hsweep).moves, acceptSeizure_shaped hs hr⟩
  split
  · exact .refl hs
  · exact .refl hs
  · exact .refl hs
  · rename_i hstate
    split_ifs
    · exact hs.calm (Calm.countTally _ _ _)
    · exact yieldGlare_shapes hs hr hc hstate hsweep
  all_goals
    rename_i hstate
    split
    · exact .refl hs
    · rename_i hn
      split_ifs with hbarred
      · exact .refl hs
      · exact haccepts _ _ (by rw [hstate]; rfl) hn hbarred

end Seizures

/-! ### The other call requests -/

/-- A report that is taken is for the out-leg of a PENDING context (R36, R37). -/
theorem reportOn_inr {s : State} {n g m : Nat} {x : Context} {o : OutLeg} (h : reportOn n g m s = .inr (x, o)) :
    s.context? n = some x ∧ x.state = .pending ∧ x.outLeg = some o ∧ o.group = g ∧ o.member = m := by
  refine ⟨reportOn_context s h, ?_⟩
  rw [reportOn, reportOn_context s h] at h
  dsimp only at h
  split at h
  case h_2 hstate ho =>
    split_ifs at h with hplace
    cases h
    exact ⟨hstate, ho, hplace⟩
  case h_3 | h_4 => split_ifs at h
  case h_1 | h_5 => cases h

section CallRequests
variable {s : State} (hs : Shaped s)
include hs

theorem route_shapes (n budget : Nat) (called : DigitField) : Shapes P s (route n budget called s).2 := by
  unfold route
  split_ifs
  · exact .refl hs
  split
  · exact .refl hs
  split
  · exact .refl hs
  split_ifs with hstate
  · exact .refl hs
  rename_i digits _ _ x hx
  obtain ⟨⟨y, hy, hnone⟩, hothers⟩ := hs.hunting hx (by rw [not_not.1 hstate]; rfl)
  cases hx.symm.trans hy
  have hbegun : Hunts P n s (s.setContext n { x with progress := some ⟨clamp 1 15 budget, 0, [], 0⟩ }) :=
    ⟨(CallMove.relabel (y := { x with progress := some ⟨clamp 1 15 budget, 0, [], 0⟩ }) hx rfl rfl fun h => absurd hnone h).moves,
      hunting_setContext hothers hnone⟩
  exact spend_shapes (hbegun.selects (firstSelection_selects hbegun.2 _ _ digits))

theorem continueCall_shapes (n : Nat) : Shapes P s (continueCall n s).2 := by
  unfold continueCall
  split_ifs
  · exact .refl hs
  split
  · exact .refl hs
  rename_i x hx
  split_ifs with hstate
  · exact .refl hs
  · exact continueFrom_shapes (hs.hunting hx (by rw [not_not.1 hstate]; rfl)) x

theorem confirm_shapes (n g m : Nat) : Shapes P s (confirm n g m s).2 := by
  by_cases hvalid : 4095 < n
  · simp only [confirm, hvalid, if_true]
    exact .refl hs
  cases hcircuit : badCircuit s 1 2 g m with
  | some a =>
    simp only [confirm, hvalid, if_false, hcircuit]
    exact .refl hs
  | none =>
    obtain ⟨r, hr, hm⟩ := badCircuit_eq_none.1 hcircuit
    cases hreport : reportOn n g m s with
    | inl d =>
      simp only [confirm, hvalid, if_false, hcircuit, hreport]
      exact .refl hs
    | inr found =>
      obtain ⟨x, o⟩ := found
      obtain ⟨hx, hstate, ho, rfl, rfl⟩ := reportOn_inr hreport
      have hc : r.members[o.member]? = some r.members[o.member] := List.getElem?_eq_getElem hm
      have hx' : (s.setGroup o.group (r.setCircuit o.member (r.members[o.member]).confirmed)).context? n = some x := hx
      simp only [confirm, hvalid, if_false, hcircuit, hreport, Circuits.changeGroup_eq hr, modify_eq_set hc]
      rw [← Group.setCircuit, changeContext_eq hx']
      refine ⟨(CallMove.confirm hx hstate ho hr hc).moves, shaped_setContext ((hs.congr rfl).others n) ?_⟩
      rw [ho]
      rfl

theorem failAttempt_shapes {n : Nat} {x : Context} {o : OutLeg} (f : FailCause) (hx : s.context? n = some x) (ho : x.outLeg = some o) :
    Shapes P s (s.failAttempt f n o) := by
  have hcontexts : ((s.failCircuit f o.group o.member).settleGuard o.guarded).rse.contexts = s.rse.contexts := by
    rw [State.settleGuard_rse, failCircuit_contexts]
  refine ⟨(CallMove.fail f hx ho).moves, ?_⟩
  rw [State.failAttempt, changeContext_eq ((context?_congr hcontexts n).trans hx)]
  exact shaped_setContext ((hs.congr hcontexts).others n) rfl

theorem failCall_shapes (n g m cause again : Nat) : Shapes P s (failCall n g m cause again s).2 := by
  unfold failCall
  split_ifs
  · exact .refl hs
  split
  · exact .refl hs
  · exact .refl hs
  · exact .refl hs
  split
  · exact .refl hs
  rename_i f _ _ _ _ _ x o hreport
  obtain ⟨hx, -, ho, -, -⟩ := reportOn_inr hreport
  have hfailed := failAttempt_shapes (P := P) hs f hx ho
  have hx' := failAttempt_context? hx f o
  dsimp only
  split_ifs
  · rw [hx']
    exact hfailed.then (continueFrom_shapes (hfailed.2.hunting hx' rfl) _)
  · exact hfailed

theorem answer_shapes (n : Nat) (arrival : Count) : Shapes P s (answer n arrival s).2 := by
  unfold answer
  split_ifs
  · exact .refl hs
  split
  · exact .refl hs
  rename_i x hx
  split_ifs with hstate
  · exact .refl hs
  · have hest : x.state = .established := not_not.1 hstate
    exact ⟨(CallMove.relabel (y := { x with state := .answered, answerStamp := some arrival }) hx rfl rfl fun _ => by simp [hest]).moves,
      shaped_setContext (hs.others n) (by rw [hs n x hx, hest]; rfl)⟩

theorem release_shapes (n : Nat) (arrival : Count) : Shapes P s (release n arrival s).2 := by
  unfold release
  split_ifs
  · exact .refl hs
  split
  · exact .refl hs
  · rename_i x hx
    obtain ⟨-, -, -, hcontexts, -⟩ := Releases.finishLegs_frame Releases.endsCircuit_ordinaryRelease x s
    obtain ⟨-, -, -, hcontexts', -⟩ := endLegs_sacOnly (s.releaseLegs x) x arrival false
    exact ⟨(CallMove.release arrival hx).moves, (hs.congr (hcontexts'.trans hcontexts)).freeContext n⟩

end CallRequests

/-! ### The sweep and the seize timers -/

section Sweep
variable {s : State} (hs : Shaped s)
include hs

theorem groupDefine_shapes (f : GroupFields) (hP : P s) : Shapes P s (groupDefine f s).2 := by
  refine ⟨(CallMove.define f hP).moves, hs.congr ?_⟩
  unfold groupDefine
  split
  · rfl
  split_ifs
  · split
    · rfl
    · split_ifs <;> rfl
  all_goals rfl

theorem sweepContextVisit_shapes : ∃ t, exec .sweepContextVisit s = .next t ∧ Shapes P s t := by
  refine ⟨_, rfl, ?_⟩
  split
  · exact .refl hs
  rename_i w hw
  split_ifs
  · split
    · rename_i hx
      exact ⟨(CallMove.pass hw hx).moves, hs.congr rfl⟩
    · rename_i x hx
      obtain ⟨-, -, -, hcontexts, -⟩ := endLegs_sacOnly s x w.instant true
      obtain ⟨-, -, -, hcontexts', -⟩ := Releases.finishLegs_frame Releases.endsCircuit_sweepCircuit x
        ((s.endLegs x w.instant true).2.freeContext w.next)
      exact ⟨(CallMove.visit hw hx).moves, ((hs.congr hcontexts).freeContext w.next).congr hcontexts'⟩
  · exact .refl hs

theorem sweepCompletion_shapes : ∃ t, exec .sweepCompletion s = .next t ∧ Shapes P s t := by
  refine ⟨_, rfl, ?_⟩
  split
  · rename_i w hw _
    split_ifs with hall
    · exact .refl hs
    · have hrestarted : Shapes P s s.restartValues := ⟨(CallMove.complete hw hall).moves, hs.congr rfl⟩
      exact hrestarted.calm ((Calm.link _ _).after (Calm.raise _ (.restartDone w.rated w.freed)))
  · exact .refl hs
  · exact .refl hs

theorem trafficRestart_shapes : ∃ t, exec .trafficRestart s = .next t ∧ Shapes P s t := by
  refine ⟨_, rfl, ?_⟩
  split
  · exact .refl hs
  rename_i h _
  split_ifs
  · exact hs.calm (Calm.link s _)
  · have hstopped : Shapes P s s.stopSeizeTimers :=
      hs.calm (Calm.mapGroups fun r => sameHeld_map (f := Circuit.stopSeize) (fun _ => rfl) rfl)
    have hbegun : Shapes P s.stopSeizeTimers (s.stopSeizeTimers.setSweep (some ⟨h.tag, h.arrival, 0, 0, 0⟩)) :=
      ⟨(CallMove.begin rfl).moves, hstopped.2.congr rfl⟩
    exact (hstopped.then hbegun).calm (Calm.link _ { s.lnk with handed := none })

theorem seizeTimerExpiry_shapes (g m : Nat) : ∃ t, exec (.seizeTimerExpiry g m) s = .next t ∧ Shapes P s t := by
  refine ⟨_, rfl, ?_⟩
  split
  case h_2 => exact .refl hs
  rename_i c hc
  split_ifs with hdue
  case neg => exact .refl hs
  obtain ⟨hstate, -⟩ := hdue
  have hcontexts := groupOnly_contexts (ordinaryRelease_groupOnly g m s)
  dsimp only
  refine Shapes.calm ?_ ((Calm.raise _ _).after (Calm.countTally _ _ _))
  split
  case h_2 hn => exact ⟨(CallMove.timeoutAlone hc hstate hn).moves, hs.congr hcontexts⟩
  case h_1 n hn =>
    refine ⟨(CallMove.timeout hc hstate hn).moves, ?_⟩
    unfold State.timeoutContext
    split
    · exact hs.congr hcontexts
    split
    · exact hs.congr hcontexts
    · rename_i o _
      have hsettled : Shaped ((s.ordinaryRelease g m).settleGuard o.guarded) := hs.congr (by rw [State.settleGuard_rse, hcontexts])
      exact shaped_setContext (hsettled.others n) rfl

end Sweep

end Sys2Proof.Proofs.Agreement


/-! ## What a command can do to the calls: every command -/

namespace Sys2Proof.Proofs.Agreement

open Sys2Proof Sys2Proof.Machine Sys2Proof.Proofs.Requests Sys2Proof.Proofs.ChargeRecords Sys2Proof.Proofs.TrunkGroups

variable {P : State → Prop}

section Serve
variable {s : State} (hs : Shaped s) {c : Instr} {k : Byte} {b : Bool} {act : Count → State → Answer × State}
include hs

/-- A request leaves the calls as its block's act does; its act is not called in a sweep but for QUERY and RECORDS_FETCH (R46). -/
theorem serve_shapes (hact : ∀ n h, (b = false → s.rse.sweep = none) → Shapes P (s.withHanded h) (act n (s.withHanded h)).2) :
    Shapes P s (s.serve c k b act) := by
  unfold State.serve
  split
  · exact .refl hs
  rename_i h _
  split_ifs with hrefused
  · exact hs.calm (Calm.link s _)
  · have hsweep : b = false → s.rse.sweep = none := fun hb => by
      simpa [hb, State.sweeping] using hrefused
    have hhanded : Shapes P s (s.withHanded h) := hs.calm (Calm.link s _)
    exact (hhanded.then (hact h.arrival h hsweep)).calm (Calm.link _ _)

/-- A request whose act leaves every call as it was. -/
theorem serve_calm (hact : ∀ n u, Calm u (act n u).2) : ∃ t, Host.Outcome.next (s.serve c k b act) = (.next t : Host.Outcome State Fault Refusal) ∧ Shapes P s t :=
  ⟨_, rfl, serve_shapes hs fun n h _ => Shaped.calm (hs.congr rfl) (hact n (s.withHanded h))⟩

/-- A request of a call. -/
theorem serve_call (hact : ∀ n u, Shaped u → u.rse.sweep = none → Shapes P u (act n u).2) :
    ∃ t, Host.Outcome.next (s.serve c k false act) = (.next t : Host.Outcome State Fault Refusal) ∧ Shapes P s t :=
  ⟨_, rfl, serve_shapes hs fun n h hsweep => hact n (s.withHanded h) (hs.congr rfl) (hsweep rfl)⟩

end Serve

section Every
variable {s : State} (hs : Shaped s)
include hs

theorem shapes_of_calm {o : Host.Outcome State Fault Refusal} (h : ∃ t, o = .next t ∧ Calm s t) : ∃ t, o = .next t ∧ Shapes P s t := by
  obtain ⟨t, ho, hcalm⟩ := h
  exact ⟨t, ho, hs.calm hcalm⟩

/-- A request changes the calls one change at a time. -/
theorem exec_requested_shapes {c : Instr} {k : Byte} (hk : requestCode c = some k) (hP : ∀ h, P (s.withHanded h)) :
    ∃ t, exec c s = .next t ∧ Shapes P s t := by
  cases c
  case trafficRestart => exact trafficRestart_shapes hs
  all_goals cases hk
  case seizeIn g m q p => exact serve_call hs fun _ _ hu hsweep => seizeIn_shapes hu hsweep g m q p
  case route n b d => exact serve_call hs fun _ _ hu _ => route_shapes hu n b d
  case continueCall n => exact serve_call hs fun _ _ hu _ => continueCall_shapes hu n
  case confirm n g m => exact serve_call hs fun _ _ hu _ => confirm_shapes hu n g m
  case failCall n g m f a => exact serve_call hs fun _ _ hu _ => failCall_shapes hu n g m f a
  case answer n => exact serve_call hs fun a _ hu _ => answer_shapes hu n a
  case release n => exact serve_call hs fun a _ hu _ => release_shapes hu n a
  case groupDefine f => exact ⟨_, rfl, serve_shapes hs fun _ h _ => groupDefine_shapes (s := s.withHanded h) (hs.congr rfl) f (hP h)⟩
  case groupBlock g => exact serve_calm hs fun _ u => Calm.groupBlock u g
  case groupUnblock g => exact serve_calm hs fun _ u => Calm.groupUnblock u g
  case circuitBlock g m => exact serve_calm hs fun _ u => Calm.onCircuit u Calm.held_block g m
  case circuitUnblock g m => exact serve_calm hs fun _ u => Calm.onCircuit u Calm.held_unblock g m
  case destSet d l => exact serve_calm hs fun _ u => Calm.destSet u d l
  case destClear d => exact serve_calm hs fun _ u => Calm.destClear u d
  case listSet l es => exact serve_calm hs fun _ u => Calm.listSet u l es
  case farMark d l t => exact serve_calm hs fun _ u => Calm.farMark u d l t
  case overlaySet f => exact serve_calm hs fun _ u => Calm.overlaySet u f
  case overlayArm i => exact serve_calm hs fun _ u => Calm.onSlot u Calm.armSlot i
  case overlayDisarm i => exact serve_calm hs fun _ u => Calm.onSlot u Calm.disarmSlot i
  case overlayFire i => exact serve_calm hs fun _ u => Calm.onSlot u Calm.fireSlot i
  case overlayRevert i => exact serve_calm hs fun _ u => Calm.onSlot u Calm.revertSlot i
  case tariffSet f => exact serve_calm hs fun _ u => Calm.tariffSet u f
  case calendarSet d p bs => exact serve_calm hs fun _ u => Calm.calendarSet u d p bs
  case weekSet ds => exact serve_calm hs fun _ u => Calm.weekSet u ds
  case timeSet w d r => exact serve_calm hs fun _ u => Calm.timeSet u w d r
  case carrierLimits i w m => exact serve_calm hs fun _ u => Calm.carrierLimits u i w m
  case carrierBar i b => exact serve_calm hs fun _ u => Calm.carrierBar u i b
  case guardMode m n => exact serve_calm hs fun _ u => Calm.guardMode u m n
  case eventConfig m k e es => exact serve_calm hs fun _ u => Calm.eventConfig u m k e es
  case periodClose i => exact serve_calm hs fun _ u => Calm.periodClose u i
  case recordsFetch n => exact serve_calm hs fun _ u => Calm.recordsFetch u n
  case query t n m b => exact serve_calm hs fun _ u => Calm.query u t n m b

/-- A step that is no request changes the calls one change at a time, or is a reset. -/
theorem exec_unrequested_shapes {c : Instr} (hk : requestCode c = none) :
    (∃ t, exec c s = .next t ∧ Shapes P s t) ∨ ∃ l, exec c s = .next { State.reset with lnk := l, pending := s.pending } := by
  cases c
  case powerOnReset => exact .inr ⟨_, rfl⟩
  case resetInputAsserted => exact .inr ⟨_, rfl⟩
  case sweepContextVisit => exact .inl (sweepContextVisit_shapes hs)
  case sweepCompletion => exact .inl (sweepCompletion_shapes hs)
  case seizeTimerExpiry g m => exact .inl (seizeTimerExpiry_shapes hs g m)
  case guardTimerExpiry g m => exact .inl (shapes_of_calm hs (Calm.guardTimerExpiry s g m))
  case sampleTimerExpiry g => exact .inl (shapes_of_calm hs (Calm.sampleTimerExpiry s g))
  case markExpiry i => exact .inl (shapes_of_calm hs (Calm.markExpiry s i))
  case midnightRollover => exact .inl (shapes_of_calm hs (Calm.midnightRollover s))
  case endOfDecisecond => exact .inl (shapes_of_calm hs (Calm.endOfDecisecond s))
  case frameComplete wire => exact .inl (shapes_of_calm hs (Calm.frameComplete s wire))
  case takeFrame => exact .inl (shapes_of_calm hs (Calm.takeFrame s))
  case transmitterChoice => exact .inl ⟨_, rfl, hs.calm (Calm.idleChoice s)⟩
  case frameSent => exact .inl (shapes_of_calm hs (Calm.frameSent s))
  case startUpClearEnd => exact .inl (shapes_of_calm hs (Calm.startUpClearEnd s))
  all_goals cases hk

end Every

/-- What holds of the calls after every change of a call, and after a reset, holds after every step. -/
theorem step_keeps_calls {K : State → Prop} (hmove : ∀ s t, K s → CallMove P s t → K t) (hreset : ∀ l q, K { State.reset with lnk := l, pending := q })
    {s t : State} (hs : Shaped s) (hK : K s) (hP : ∀ l q, P { s with lnk := l, pending := q }) (hstep : step s = .next t) :
    K t ∧ Shaped t := by
  unfold step at hstep
  split at hstep
  · cases hstep
    exact ⟨hK, hs⟩
  rename_i c q _
  have hqueue : Calm s (s.withPending q) := .beside rfl rfl rfl rfl (le_refl _)
  have hs' : Shaped (s.withPending q) := hs.congr rfl
  have hK' : K (s.withPending q) := hmove _ _ hK (.calm hqueue)
  have hmoves : ∀ u, CallMoves P (s.withPending q) u → K u := fun u h => by
    induction h with
    | refl => exact hK'
    | tail _ hlast ih => exact hmove _ _ ih hlast
  have hrun : ∀ u, Shapes P (s.withPending q) u → K u ∧ Shaped u := fun u h => ⟨hmoves u h.1, h.2⟩
  cases hk : requestCode c with
  | some k =>
    obtain ⟨u, hexec, hshapes⟩ := exec_requested_shapes hs' hk fun h => hP { s.lnk with handed := some h } q
    cases hexec.symm.trans hstep
    exact hrun _ hshapes
  | none =>
    rcases exec_unrequested_shapes (P := P) hs' hk with ⟨u, hexec, hshapes⟩ | ⟨l, hexec⟩
    · cases hexec.symm.trans hstep
      exact hrun _ hshapes
    · cases hexec.symm.trans hstep
      exact ⟨hreset l q, fun n x hx => by simp [State.context?, State.reset, tget] at hx⟩

end Sys2Proof.Proofs.Agreement


/-! ## Record room: the guarded count is that of the guarded legs, and the queue's places hold (R157, R160 to R162) -/

namespace Sys2Proof.Proofs.RecordRoom

open Sys2Proof Sys2Proof.Machine Sys2Proof.Proofs.Circuits Sys2Proof.Proofs.Requests Sys2Proof.Proofs.ChargeRecords
open Sys2Proof.Proofs.TrunkGroups Sys2Proof.Proofs.Steps Sys2Proof.Proofs.Selections Sys2Proof.Proofs.Calls
open Sys2Proof.Proofs.Legs Sys2Proof.Proofs.Agreement
open Sys2Proof.Proofs.Timers (settleGuard_eq)

/-! ### Sums over a table -/

/-- The sum of a weight over a table's entries. -/
def tableSum {α : Type} (f : α → Nat) (t : Table α) : Nat := (t.map fun x => f x.2).sum

/-- The weight of the entry of a number, 0 where there is none. -/
def weightAt {α : Type} (f : α → Nat) (t : Table α) (n : Nat) : Nat := ((tget t n).map f).getD 0

section Sums
variable {α : Type} (f : α → Nat) {t : Table α} (n : Nat)

theorem tableSum_cons (k : Nat) (v : α) (t : Table α) : tableSum f ((k, v) :: t) = f v + tableSum f t := rfl

theorem tget_eq_none_of_lt (h : ∀ e ∈ t, n < e.1) : tget t n = none := by
  by_contra hne
  obtain ⟨x, hx⟩ := Option.ne_none_iff_exists'.1 hne
  exact absurd (h _ (mem_of_tget hx)) (lt_irrefl n)

/-- A write of one entry moves the sum by the old and the new weight. -/
theorem tableSum_tput (hwf : tableWf t = true) (x : α) : tableSum f (tput t n x) + weightAt f t n = tableSum f t + f x := by
  induction t with
  | nil => simp [tput, tableSum, weightAt, tget]
  | cons e t ih =>
    obtain ⟨k, v⟩ := e
    obtain ⟨hlt, hwf⟩ := tableWf_cons.1 hwf
    by_cases hn : n < k
    · have hnone : tget ((k, v) :: t) n = none := tget_eq_none_of_lt n fun e he => by
        rcases List.mem_cons.1 he with rfl | he
        · exact hn
        · exact hn.trans (hlt e he)
      rw [tput, if_pos hn, tableSum_cons, weightAt, hnone]
      simp [Nat.add_comm]
    · by_cases hk : k = n
      · simp only [tput, if_neg hn, if_pos hk, tableSum_cons, weightAt, tget, Option.map_some, Option.getD_some]
        omega
      · have hrest := ih hwf
        simp only [tput, if_neg hn, if_neg hk, tableSum_cons, weightAt, tget] at hrest ⊢
        omega

/-- A removal takes the entry's weight from the sum. -/
theorem tableSum_tdel (hwf : tableWf t = true) : tableSum f (tdel t n) + weightAt f t n = tableSum f t := by
  induction t with
  | nil => simp [tdel, tableSum, weightAt, tget]
  | cons e t ih =>
    obtain ⟨k, v⟩ := e
    obtain ⟨hlt, hwf⟩ := tableWf_cons.1 hwf
    have hrest := ih hwf
    by_cases hk : k = n
    · have hnone : tget t n = none := tget_eq_none_of_lt n fun e he => hk ▸ hlt e he
      simp only [weightAt, hnone, Option.map_none, Option.getD_none, Nat.add_zero] at hrest
      simp only [tdel, hk, if_true, tableSum_cons, weightAt, tget, Option.map_some, Option.getD_some]
      omega
    · simp only [tdel, hk, if_false, tableSum_cons, weightAt, tget] at hrest ⊢
      omega

theorem weightAt_le (hwf : tableWf t = true) : weightAt f t n ≤ tableSum f t := by
  have := tableSum_tdel f n hwf
  omega

end Sums

/-! ### The count and the room -/

/-- A context's guarded legs are on chargeable carriers (R30). -/
def GuardsSound (x : Context) : Prop :=
  (x.inLeg.guarded = true → chargeable x.inLeg.carrier = true) ∧
    ∀ o, x.outLeg = some o → o.guarded = true → chargeable o.carrier = true

/-- The guarded count is that of the guarded legs, and records and guarded legs find their places (R157, R161). -/
structure Counted (s : State) : Prop where
  canonical : tableWf s.rse.contexts = true
  sound : ∀ n x, s.context? n = some x → GuardsSound x
  guarded : s.sac.guarded = s.guardedLegs
  room : s.sac.records.length + s.sac.guarded ≤ 1024

theorem roomKept_iff {s : State} : s.roomKept ↔ Counted s ∧ Shaped s := by
  constructor
  · rintro ⟨hwf, hlegs, hguarded, hroom⟩
    have hsound : ∀ n x, s.context? n = some x → x.legsSound := fun n x hx => hlegs _ (mem_of_tget hx)
    exact ⟨⟨hwf, fun n x hx => (hsound n x hx).2, hguarded, hroom⟩, fun n x hx => (hsound n x hx).1⟩
  · rintro ⟨⟨hwf, hsound, hguarded, hroom⟩, hshaped⟩
    refine ⟨hwf, fun e he => ?_, hguarded, hroom⟩
    have hx : s.context? e.1 = some e.2 := tget_of_mem hwf he
    exact ⟨hshaped _ _ hx, hsound _ _ hx⟩

/-- The guarded legs of one context, 0 when it is FREE. -/
def legsAt (s : State) (n : Nat) : Nat := weightAt Context.guardedLegs s.rse.contexts n

theorem legsAt_of {s : State} {n : Nat} {x : Context} (hx : s.context? n = some x) : legsAt s n = x.guardedLegs := by
  rw [legsAt, weightAt, show tget s.rse.contexts n = some x from hx]
  rfl

theorem legsAt_free {s : State} {n : Nat} (hx : s.context? n = none) : legsAt s n = 0 := by
  rw [legsAt, weightAt, show tget s.rse.contexts n = none from hx]
  rfl

section Changes
variable {s t : State} {n : Nat} {x y : Context}

theorem Counted.legs_le (hs : Counted s) (hx : s.context? n = some x) : x.guardedLegs ≤ s.sac.guarded := by
  rw [hs.guarded, ← legsAt_of hx]
  exact weightAt_le _ n hs.canonical

theorem Counted.congr (hs : Counted s) (hcontexts : t.rse.contexts = s.rse.contexts) (hguarded : t.sac.guarded = s.sac.guarded)
    (hrecords : t.sac.records.length ≤ s.sac.records.length) : Counted t := by
  refine ⟨by rw [hcontexts]; exact hs.canonical, fun n x hx => hs.sound n x (by rwa [context?_congr hcontexts] at hx), ?_, ?_⟩
  · rw [hguarded, hs.guarded, State.guardedLegs, State.guardedLegs, hcontexts]
  · have := hs.room
    omega

/-- A context is written, and the guarded count follows its legs. -/
theorem Counted.put (hs : Counted s) (hcontexts : t.rse.contexts = tput s.rse.contexts n y) (hy : GuardsSound y)
    (hguarded : t.sac.guarded + legsAt s n = s.sac.guarded + y.guardedLegs) (hroom : t.sac.records.length + t.sac.guarded ≤ 1024) :
    Counted t := by
  have hcontext : ∀ k, t.context? k = (s.setContext n y).context? k := context?_congr hcontexts
  refine ⟨by rw [hcontexts]; exact tableWf_tput _ _ _ hs.canonical, fun k x hx => ?_, ?_, hroom⟩
  · rw [hcontext] at hx
    by_cases hk : k = n
    · subst hk
      rw [setContext_context?_same, Option.some_inj] at hx
      exact hx ▸ hy
    · exact hs.sound k x (by rwa [setContext_context?_other s n k y hk] at hx)
  · have hsum := tableSum_tput Context.guardedLegs n hs.canonical y
    have hbefore : s.sac.guarded = tableSum Context.guardedLegs s.rse.contexts := hs.guarded
    have hafter : t.guardedLegs = tableSum Context.guardedLegs (tput s.rse.contexts n y) := by rw [← hcontexts]; rfl
    unfold legsAt at hguarded
    omega

/-- A context is freed, and the guarded count falls by its legs. -/
theorem Counted.free (hs : Counted s) (hcontexts : t.rse.contexts = tdel s.rse.contexts n)
    (hguarded : t.sac.guarded + legsAt s n = s.sac.guarded) (hroom : t.sac.records.length + t.sac.guarded ≤ 1024) : Counted t := by
  have hcontext : ∀ k, t.context? k = (s.freeContext n).context? k := context?_congr hcontexts
  refine ⟨by rw [hcontexts]; exact tableWf_tdel _ _ hs.canonical, fun k x hx => ?_, ?_, hroom⟩
  · rw [hcontext] at hx
    by_cases hk : k = n
    · subst hk
      simp at hx
    · exact hs.sound k x (by rwa [freeContext_context?_other s n k hk] at hx)
  · have hsum := tableSum_tdel Context.guardedLegs n hs.canonical
    have hbefore : s.sac.guarded = tableSum Context.guardedLegs s.rse.contexts := hs.guarded
    have hafter : t.guardedLegs = tableSum Context.guardedLegs (tdel s.rse.contexts n) := by rw [← hcontexts]; rfl
    unfold legsAt at hguarded
    omega

end Changes

/-! ### The ends of a call's legs -/

/-- The place a leg takes. -/
def Leg.places (leg : Leg) : Nat := if leg.guarded = true then 1 else 0

/-- The end of a leg gives its place back, to its record where it has one, and overfills no queue. -/
def Settles (f : Leg → State → LegReply × State) : Prop :=
  ∀ leg s, (f leg s).2.sac.guarded = s.sac.guarded - Leg.places leg ∧
    (Leg.places leg ≤ s.sac.guarded → s.sac.records.length + s.sac.guarded ≤ 1024 →
      (f leg s).2.sac.records.length + (f leg s).2.sac.guarded ≤ 1024)

theorem settles_endUnanswered : Settles State.endUnanswered := by
  intro leg s
  rw [endUnanswered_eq]
  cases hguarded : leg.guarded <;> simp [unansweredSac, Leg.places, hguarded]
  omega

theorem settles_rateLeg (q : BitVec 32) (a r : Count) (cut : Bool) : Settles (State.rateLeg q a r cut) := by
  intro leg s
  rw [rateLeg_eq]
  dsimp only
  rw [(raises_ratedEvents _ _ _ _).sac]
  cases hguarded : leg.guarded with
  | true =>
    simp [Sac.rated, Sac.places, Leg.places, hguarded]
    omega
  | false =>
    by_cases hroom : s.sac.records.length + s.sac.guarded < 1024
    · simp [Sac.rated, Sac.places, Leg.places, hguarded, hroom]
      omega
    · simp [Sac.rated, Sac.places, Leg.places, hguarded, hroom]

theorem handLegs_settles {f : Leg → State → LegReply × State} (hf : Settles f) (legs : List Leg) (s : State)
    (hplaces : (legs.map Leg.places).sum ≤ s.sac.guarded) (hroom : s.sac.records.length + s.sac.guarded ≤ 1024) :
    (handLegs f legs s).2.sac.guarded + (legs.map Leg.places).sum = s.sac.guarded ∧
      (handLegs f legs s).2.sac.records.length + (handLegs f legs s).2.sac.guarded ≤ 1024 := by
  induction legs generalizing s with
  | nil => exact ⟨rfl, hroom⟩
  | cons leg legs ih =>
    obtain ⟨hguarded, hrecords⟩ := hf leg s
    simp only [List.map_cons, List.sum_cons] at hplaces ⊢
    obtain ⟨hrest, hroom'⟩ := ih (f leg s).2 (by omega) (hrecords (by omega) hroom)
    exact ⟨by simp only [handLegs]; omega, hroom'⟩

/-- The legs that end are the guarded ones among others: a guarded leg is chargeable. -/
theorem sum_places_legs {x : Context} (hx : GuardsSound x) : (x.legs.map Leg.places).sum = x.guardedLegs := by
  obtain ⟨hin, hout⟩ := hx
  have hfirst : (x.ratedIn.map Leg.places).sum = if x.inLeg.guarded = true then 1 else 0 := by
    cases hcarrier : x.carrierOn .inLeg with
    | none =>
      have hfree : chargeable x.inLeg.carrier = false := by
        rw [chargeable, show carrierIndex x.inLeg.carrier = none from hcarrier]
        rfl
      rw [ratedIn_none hcarrier, if_neg fun h => by rw [hin h] at hfree; cases hfree]
      rfl
    | some i =>
      rw [ratedIn_some hcarrier]
      simp [Leg.places, inLegOf]
  have hsecond : (x.ratedOut.map Leg.places).sum = match x.outLeg with | some o => if o.guarded then 1 else 0 | none => 0 := by
    cases ho : x.outLeg with
    | none => simp [Context.ratedOut, ho]
    | some o =>
      cases hcarrier : x.carrierOn .outLeg with
      | none =>
        have hfree : chargeable o.carrier = false := by
          have hnone : carrierIndex o.carrier = none := by simpa [Context.carrierOn, ho] using hcarrier
          rw [chargeable, hnone]
          rfl
        rw [ratedOut_none hcarrier]
        dsimp only
        rw [if_neg fun h => by rw [hout o ho h] at hfree; cases hfree]
        rfl
      | some i =>
        rw [ratedOut_some ho hcarrier]
        simp [Leg.places, outLegOf]
  rw [Context.legs, List.map_append, List.sum_append, hfirst, hsecond]
  rfl

/-- The ends of a context's legs give all its places back. -/
theorem endLegs_settled {s u : State} (hs : Counted s) {n : Nat} {x : Context} (hx : s.context? n = some x) (hu : u.sac = s.sac)
    (release : Count) (cut : Bool) :
    (u.endLegs x release cut).2.sac.guarded + x.guardedLegs = s.sac.guarded ∧
      (u.endLegs x release cut).2.sac.records.length + (u.endLegs x release cut).2.sac.guarded ≤ 1024 := by
  have hle := hs.legs_le hx
  have hroom := hs.room
  rw [← sum_places_legs (hs.sound n x hx)] at hle ⊢
  rw [← hu] at hle hroom ⊢
  unfold State.endLegs
  split_ifs
  · exact handLegs_settles (settles_rateLeg _ _ _ _) x.legs u hle hroom
  · exact handLegs_settles settles_endUnanswered x.legs u hle hroom

end Sys2Proof.Proofs.RecordRoom


/-! ## Record room after every step (R157, R160, R161) -/

namespace Sys2Proof.Proofs.RecordRoom

open Sys2Proof Sys2Proof.Machine Sys2Proof.Proofs.Circuits Sys2Proof.Proofs.Requests Sys2Proof.Proofs.ChargeRecords
open Sys2Proof.Proofs.TrunkGroups Sys2Proof.Proofs.Steps Sys2Proof.Proofs.Selections Sys2Proof.Proofs.Calls
open Sys2Proof.Proofs.Legs Sys2Proof.Proofs.Agreement
open Sys2Proof.Proofs.Timers (settleGuard_eq)

/-- What an optional out-leg holds of record places. -/
def outPlaces (x : Context) : Nat := match x.outLeg with | some o => if o.guarded = true then 1 else 0 | none => 0

theorem guardedLegs_eq (x : Context) : x.guardedLegs = (if x.inLeg.guarded = true then 1 else 0) + outPlaces x := rfl

section Admissions
variable {s t : State} {n : Nat} {r : Group}

/-- A leg is admitted only on a chargeable carrier, and only with room (R157, R160). -/
theorem admitted_room (hs : Counted s) (hroom : s.recordBarred r.carrier = false) :
    (s.guards r.carrier = true → chargeable r.carrier = true) ∧
      s.sac.records.length + (s.sac.admitted (s.guards r.carrier)).guarded ≤ 1024 := by
  have hbound := hs.room
  cases hguards : s.guards r.carrier with
  | false => exact ⟨by simp, hbound⟩
  | true =>
    have hplace : s.sac.records.length + s.sac.guarded < 1024 := by
      by_contra hfull
      rw [recordBarred_iff.2 ⟨hguards, by omega⟩] at hroom
      cases hroom
    have hchargeable : chargeable r.carrier = true := by
      rw [State.guards, Bool.and_eq_true] at hguards
      exact hguards.2
    exact ⟨fun _ => hchargeable, hplace⟩

theorem acceptSeizure_counted {g m : Nat} {c : Circuit} (q : BitVec 32) (p : Priority) (hs : Counted s) (hr : s.group? g = some r)
    (hn : s.takeContext? = some n) (hroom : s.recordBarred r.carrier = false) : Counted (s.acceptSeizure g m r c q p n) := by
  obtain ⟨hcharge, hplaces⟩ := admitted_room hs hroom
  have hfree : s.context? n = none := (lowestFree_spec _ _ _ hn).1
  rw [acceptSeizure_eq hr]
  refine hs.put (n := n) (y := newcomer s g m r q p) rfl ⟨hcharge, fun o ho => by cases ho⟩ ?_ hplaces
  rw [legsAt_free hfree]
  show (s.sac.admitted (s.guards r.carrier)).guarded + 0 = s.sac.guarded + (newcomer s g m r q p).guardedLegs
  cases hguards : s.guards r.carrier <;> simp [Sac.admitted, newcomer, Context.guardedLegs, hguards]

theorem grant_counted {m idx : Nat} {e : RouteEntry} {x : Context} (hs : Counted s) (hx : s.context? n = some x) (hnone : x.outLeg = none)
    (hroom : s.recordBarred r.carrier = false) : Counted ((s.setGroup e.group (r.granted n m)).grant n idx e r m) := by
  obtain ⟨hcharge, hplaces⟩ := admitted_room hs hroom
  obtain ⟨hin, -⟩ := hs.sound n x hx
  have hguards : (s.setGroup e.group (r.granted n m)).guards r.carrier = s.guards r.carrier := rfl
  have hx' : ({ s.setGroup e.group (r.granted n m) with sac := s.sac.admitted (s.guards r.carrier) } : State).context? n = some x := hx
  rw [State.grant, hguards, admitLeg_eq, State.setGroup_sac, changeContext_eq hx']
  refine hs.put (n := n) (y := grantedContext idx e r m (s.guards r.carrier) x) rfl ⟨hin, fun o ho hguarded => ?_⟩ ?_ hplaces
  · cases ho
    exact hcharge hguarded
  · have hbefore : outPlaces x = 0 := by rw [outPlaces, hnone]
    rw [legsAt_of hx, guardedLegs_eq, guardedLegs_eq, hbefore]
    show (s.sac.admitted (s.guards r.carrier)).guarded + ((if x.inLeg.guarded = true then 1 else 0) + 0) =
      s.sac.guarded + ((if x.inLeg.guarded = true then 1 else 0) + if s.guards r.carrier = true then 1 else 0)
    cases s.guards r.carrier <;> simp [Sac.admitted]
    omega

/-- A context loses its out-leg, whose place is given back. -/
theorem drop_counted {x y : Context} {b : Bool} (hs : Counted s) (hx : s.context? n = some x) (hin : y.inLeg = x.inLeg) (hout : y.outLeg = none)
    (hb : outPlaces x = if b = true then 1 else 0) (hcontexts : t.rse.contexts = tput s.rse.contexts n y)
    (hsac : t.sac = s.sac.settled b) : Counted t := by
  have hle := hs.legs_le hx
  have hroom := hs.room
  obtain ⟨hchargeable, -⟩ := hs.sound n x hx
  refine hs.put hcontexts ⟨by rw [hin]; exact hchargeable, by simp [hout]⟩ ?_ ?_
  · have hout' : outPlaces y = 0 := by rw [outPlaces, hout]
    rw [legsAt_of hx, hsac]
    rw [guardedLegs_eq] at hle ⊢
    rw [guardedLegs_eq y, hin, hout']
    cases b <;> simp [Sac.settled] at hb ⊢ <;> omega
  · rw [hsac]
    cases b <;> simp [Sac.settled] <;> omega

/-- A context is written with the legs it had. -/
theorem relabel_counted {x y : Context} (hs : Counted s) (hx : s.context? n = some x) (hin : y.inLeg = x.inLeg)
    (hout : y.outLeg = x.outLeg) (hcontexts : t.rse.contexts = tput s.rse.contexts n y) (hsac : t.sac = s.sac) : Counted t := by
  refine hs.put hcontexts ?_ ?_ (by rw [hsac]; exact hs.room)
  · rw [GuardsSound, hin, hout]
    exact hs.sound n x hx
  · rw [legsAt_of hx, hsac, Context.guardedLegs, Context.guardedLegs, hin, hout]

end Admissions

theorem outPlaces_of {x : Context} {o : OutLeg} (ho : x.outLeg = some o) : outPlaces x = if o.guarded = true then 1 else 0 := by
  rw [outPlaces, ho]

theorem outPlaces_outGuarded (x : Context) : outPlaces x = if outGuarded x = true then 1 else 0 := by
  unfold outPlaces outGuarded
  cases x.outLeg <;> rfl

theorem groupDefine_rest (f : GroupFields) (s : State) : (groupDefine f s).2.rse = s.rse ∧ (groupDefine f s).2.sac = s.sac := by
  unfold groupDefine
  split
  · exact ⟨rfl, rfl⟩
  split_ifs
  · split
    · exact ⟨rfl, rfl⟩
    · split_ifs <;> exact ⟨rfl, rfl⟩
  all_goals exact ⟨rfl, rfl⟩

theorem dropOutLeg_counted {s : State} {n : Nat} {x : Context} (hs : Counted s) (hx : s.context? n = some x) :
    Counted (dropOutLeg n x s) := by
  rw [dropOutLeg, settleGuard_eq]
  exact drop_counted (y := dropped x) hs hx rfl rfl (outPlaces_outGuarded x) rfl rfl

/-- Every change of a call keeps the guarded count and the room. -/
theorem move_counted {P : State → Prop} {s t : State} (hs : Counted s) (h : CallMove P s t) : Counted t := by
  cases h with
  | calm h => exact hs.congr h.contexts h.guarded h.records
  | define f =>
    obtain ⟨hrse, hsac⟩ := groupDefine_rest f s
    exact hs.congr (by rw [hrse]) (by rw [hsac]) (by rw [hsac])
  | relabel hx hin hout => exact relabel_counted hs hx hin hout rfl rfl
  | seize q p hr _ _ hn hroom => exact acceptSeizure_counted q p hs hr hn hroom
  | yield q p hr _ _ hn hroom _ hx => exact dropOutLeg_counted (acceptSeizure_counted q p hs hr hn hroom) hx
  | yieldAlone q p hr _ _ hn hroom => exact acceptSeizure_counted q p hs hr hn hroom
  | grant idx hx hnone _ _ _ hroom => exact grant_counted hs hx hnone hroom
  | @confirm n x o r c hx => exact relabel_counted (y := { x with state := .established }) hs hx rfl rfl rfl rfl
  | @fail n x o f hx ho =>
    have hcircuit := failCircuit_contexts s f o.group o.member
    have hcontext : ((s.failCircuit f o.group o.member).settleGuard o.guarded).context? n = some x := by
      rw [← hx]
      exact context?_congr (by rw [State.settleGuard_rse]; exact hcircuit) n
    rw [State.failAttempt, changeContext_eq hcontext, settleGuard_eq]
    refine drop_counted (y := x.halt f.halt (f.resume o.entry)) hs hx rfl rfl (outPlaces_of ho) ?_ ?_
    · exact congrArg (tput · n _) hcircuit
    · exact congrArg (Sac.settled · o.guarded) (Accounts.failCircuit_sac s f o.group o.member)
  | @timeout g m n c hc =>
    have hcontexts := groupOnly_contexts (ordinaryRelease_groupOnly g m s)
    have hreleased : Counted (s.ordinaryRelease g m) :=
      hs.congr hcontexts (by rw [Accounts.ordinaryRelease_sac]) (by rw [Accounts.ordinaryRelease_sac])
    unfold State.timeoutContext
    split
    · exact hreleased
    rename_i x hx
    split
    · exact hreleased
    · rename_i o ho
      rw [settleGuard_eq]
      exact drop_counted (y := x.halt .timeout (some (o.entry + 1))) hreleased hx rfl rfl (outPlaces_of ho) rfl rfl
  | @timeoutAlone g m c hc =>
    exact hs.congr (groupOnly_contexts (ordinaryRelease_groupOnly g m s)) (by rw [Accounts.ordinaryRelease_sac])
      (by rw [Accounts.ordinaryRelease_sac])
  | @release n x a hx =>
    obtain ⟨-, hsac, -, hcontexts, -⟩ := Releases.finishLegs_frame Releases.endsCircuit_ordinaryRelease x s
    obtain ⟨-, -, -, hcontexts', -⟩ := endLegs_sacOnly (s.releaseLegs x) x a false
    obtain ⟨hguarded, hroom⟩ := endLegs_settled hs hx (u := s.releaseLegs x) hsac a false
    exact hs.free (congrArg (tdel · n) (hcontexts'.trans hcontexts)) (by rw [legsAt_of hx]; exact hguarded) hroom
  | @visit w x hw hx =>
    obtain ⟨-, -, -, hcontexts, -⟩ := endLegs_sacOnly s x w.instant true
    obtain ⟨-, hsac, -, hcontexts', -⟩ := Releases.finishLegs_frame Releases.endsCircuit_sweepCircuit x
      ((s.endLegs x w.instant true).2.freeContext w.next)
    obtain ⟨hguarded, hroom⟩ := endLegs_settled hs hx (u := s) rfl w.instant true
    have hsac' : ((s.visit w x).setSweep (some (w.counted x))).sac = (s.endLegs x w.instant true).2.sac := hsac
    refine hs.free (hcontexts'.trans (congrArg (tdel · w.next) hcontexts)) ?_ ?_
    · rw [legsAt_of hx, hsac']
      exact hguarded
    · rw [hsac']
      exact hroom
  | pass | begin | complete => exact hs.congr rfl rfl (le_refl _)

/-- Settles O14: each change of a call moves the guarded count with the legs, and a leg takes a place only where there is one. -/
theorem stepKeepsRecordRoom : Obligations.StepKeepsRecordRoom := by
  intro s t hs hstep
  obtain ⟨hcounted, hshaped⟩ := roomKept_iff.1 hs
  have hreset : ∀ l q, Counted { State.reset with lnk := l, pending := q } := fun l q =>
    ⟨rfl, fun n x hx => by simp [State.context?, State.reset, tget] at hx, rfl, by simp [State.reset, Sac.powerOn]⟩
  exact roomKept_iff.2
    (step_keeps_calls (P := fun _ => True) (fun _ _ => move_counted) hreset hshaped hcounted (fun _ _ => trivial) hstep)

end Sys2Proof.Proofs.RecordRoom


/-! ## Circuits and contexts name each other (R6): what it says, and one context's change at a time -/

namespace Sys2Proof.Proofs.Agreement

open Sys2Proof Sys2Proof.Machine Sys2Proof.Proofs.Circuits Sys2Proof.Proofs.Requests Sys2Proof.Proofs.ChargeRecords
open Sys2Proof.Proofs.TrunkGroups Sys2Proof.Proofs.Steps Sys2Proof.Proofs.Invariants Sys2Proof.Proofs.Releases

/-! ### The legs of a context, and the circuits that are held -/

/-- The state of an out-leg's circuit, by its context's state (R6). -/
def outState (st : CallState) : CircuitState := if st = .pending then .outPending else .outBusy

/-- What a leg of context `n` makes the circuit at a place say. -/
def LegHolds (n : Nat) (x : Context) (g m : Nat) (v : CircuitState × Option Nat) : Prop :=
  (x.inLeg.group = g ∧ x.inLeg.member = m ∧ v = (.inBusy, some n)) ∨
    ∃ o, x.outLeg = some o ∧ o.group = g ∧ o.member = m ∧ v = (outState x.state, some n)

/-- The busy circuits are those of the contexts' legs, and say so. -/
def Agrees (H : Nat → Nat → Option (CircuitState × Option Nat)) (X : Nat → Option Context) : Prop :=
  ∀ g m v, H g m = some v ↔ ∃ n x, X n = some x ∧ LegHolds n x g m v

/-- Circuits and contexts agree, and no context is left behind a running sweep (R6, R28, R47). -/
structure Linked (s : State) : Prop where
  agrees : Agrees (heldAt s) s.context?
  bound : ∀ n x, s.context? n = some x → n < 4096 ∧ ∀ w, s.rse.sweep = some w → w.next ≤ n

theorem outState_busy (st : CallState) : (outState st).isBusy = true := by
  unfold outState
  split_ifs <;> rfl

theorem outState_ne (st : CallState) : outState st ≠ .inBusy := by
  unfold outState
  split_ifs <;> simp

theorem LegHolds.owner {n : Nat} {x : Context} {g m : Nat} {v : CircuitState × Option Nat} (h : LegHolds n x g m v) : v.2 = some n := by
  rcases h with ⟨-, -, rfl⟩ | ⟨o, -, -, -, rfl⟩ <;> rfl

theorem LegHolds.legAt {n : Nat} {x : Context} {g m : Nat} {v : CircuitState × Option Nat} (h : LegHolds n x g m v) : LegAt x g m := by
  rcases h with ⟨hg, hm, -⟩ | ⟨o, ho, hg, hm, -⟩
  · exact .inl ⟨hg, hm⟩
  · exact .inr ⟨o, ho, hg, hm⟩

theorem legAt_holds {x : Context} {g m : Nat} (h : LegAt x g m) (n : Nat) : ∃ v, LegHolds n x g m v := by
  rcases h with ⟨hg, hm⟩ | ⟨o, ho, hg, hm⟩
  · exact ⟨_, .inl ⟨hg, hm, rfl⟩⟩
  · exact ⟨_, .inr ⟨o, ho, hg, hm, rfl⟩⟩

theorem heldAt_eq_some {s : State} {g m : Nat} {v : CircuitState × Option Nat} :
    heldAt s g m = some v ↔ ∃ c, s.circuit? g m = some c ∧ c.state.isBusy = true ∧ v = (c.state, c.context) := by
  rw [heldAt, Option.bind_eq_some_iff]
  refine exists_congr fun c => and_congr_right fun _ => ?_
  unfold held
  split_ifs with hbusy
  · simp [hbusy, eq_comm]
  · simp [hbusy]

/-- Circuits and contexts agree as the statement has it. -/
theorem callsAgree_iff {s : State} : s.callsAgree ↔ s.canonical = true ∧ s.groupsSound ∧ Linked s ∧ Shaped s := by
  constructor
  · rintro ⟨hcanonical, hsound, hout, hin, hlegs, hcontexts⟩
    refine ⟨hcanonical, hsound, ⟨fun g m v => ⟨fun h => ?circuits, ?legs⟩, fun n x hx => ?bound⟩, fun n x hx => (hcontexts _ (mem_of_tget hx)).1⟩
    case circuits =>
      obtain ⟨c, hc, hbusy, rfl⟩ := heldAt_eq_some.1 h
      by_cases hstate : c.state = .inBusy
      · obtain ⟨n, x, hn, hx, hg, hm⟩ := hin g m c hc hstate
        exact ⟨n, x, hx, .inl ⟨hg, hm, by rw [hstate, hn]⟩⟩
      · have hside : c.state = .outPending ∨ c.state = .outBusy := by
          cases h : c.state <;> simp_all [CircuitState.isBusy]
        obtain ⟨n, x, o, hn, hx, ho, hg, hm, hpending, hbusy'⟩ := hout g m c hc hside
        refine ⟨n, x, hx, .inr ⟨o, ho, hg, hm, ?_⟩⟩
        rw [hn, outState]
        rcases hside with hstate | hstate
        · rw [if_pos (hpending hstate), hstate]
        · rcases hbusy' hstate with hx' | hx' <;> rw [hx', hstate] <;> rfl
    case legs =>
      rintro ⟨n, x, hx, hleg⟩
      obtain ⟨⟨c, hc, hstate, hn⟩, hlegsOut⟩ := hlegs n x hx
      rcases hleg with ⟨rfl, rfl, rfl⟩ | ⟨o, ho, rfl, rfl, rfl⟩
      · exact heldAt_eq_some.2 ⟨c, hc, by rw [hstate]; rfl, by rw [hstate, hn]⟩
      · obtain ⟨d, hd, hn, hstate⟩ := hlegsOut o ho
        have hout' : d.state = outState x.state := hstate
        exact heldAt_eq_some.2 ⟨d, hd, by rw [hout']; exact outState_busy _, by rw [hout', hn]⟩
    case bound =>
      obtain ⟨-, hlt, hsweep⟩ := hcontexts _ (mem_of_tget hx)
      exact ⟨hlt, hsweep⟩
  · rintro ⟨hcanonical, hsound, ⟨hagrees, hbound⟩, hshaped⟩
    obtain ⟨-, -, -, hwf⟩ := canonical_iff.1 hcanonical
    have hholder : ∀ g m c, s.circuit? g m = some c → c.state.isBusy = true →
        ∃ n x, s.context? n = some x ∧ LegHolds n x g m (c.state, c.context) := fun g m c hc hbusy =>
      (hagrees g m _).1 (heldAt_eq_some.2 ⟨c, hc, hbusy, rfl⟩)
    refine ⟨hcanonical, hsound, fun g m c hc hstate => ?out, fun g m c hc hstate => ?inn, fun n x hx => ⟨?inLeg, fun o ho => ?outLeg⟩,
      fun e he => ?contexts⟩
    case out =>
      obtain ⟨n, x, hx, hleg⟩ := hholder g m c hc (by rcases hstate with h | h <;> rw [h] <;> rfl)
      rcases hleg with ⟨-, -, hv⟩ | ⟨o, ho, hg, hm, hv⟩
      · rcases hstate with h | h <;> rw [h] at hv <;> cases hv
      · obtain ⟨hv, hn⟩ := (Prod.mk.injEq _ _ _ _).mp hv
        have hlegged : x.state.hasOutLeg = true := by rw [← hshaped n x hx, ho]; rfl
        refine ⟨n, x, o, hn, hx, ho, hg, hm, fun h => ?_, fun h => ?_⟩
        · by_contra hne
          rw [outState, if_neg hne, h] at hv
          cases hv
        · rw [h] at hv
          cases hx' : x.state <;> rw [hx'] at hv hlegged
          case established => exact .inl rfl
          case answered => exact .inr rfl
          case pending => cases hv
          all_goals cases hlegged
    case inn =>
      obtain ⟨n, x, hx, hleg⟩ := hholder g m c hc (by rw [hstate]; rfl)
      rcases hleg with ⟨hg, hm, hv⟩ | ⟨o, -, -, -, hv⟩
      · exact ⟨n, x, congrArg Prod.snd hv, hx, hg, hm⟩
      · exact absurd ((congrArg Prod.fst hv).symm.trans hstate) (outState_ne _)
    case inLeg =>
      obtain ⟨c, hc, -, hv⟩ := heldAt_eq_some.1 ((hagrees _ _ _).2 ⟨n, x, hx, .inl ⟨rfl, rfl, rfl⟩⟩)
      exact ⟨c, hc, (congrArg Prod.fst hv).symm, (congrArg Prod.snd hv).symm⟩
    case outLeg =>
      obtain ⟨c, hc, -, hv⟩ := heldAt_eq_some.1 ((hagrees _ _ _).2 ⟨n, x, hx, .inr ⟨o, ho, rfl, rfl, rfl⟩⟩)
      exact ⟨c, hc, (congrArg Prod.snd hv).symm, (congrArg Prod.fst hv).symm⟩
    case contexts =>
      have hx : s.context? e.1 = some e.2 := tget_of_mem hwf he
      exact ⟨hshaped _ _ hx, hbound _ _ hx⟩

/-! ### One context's change -/

section Changes
variable {H H' : Nat → Nat → Option (CircuitState × Option Nat)} {X X' : Nat → Option Context} {n : Nat}

/-- No other context has a leg at a place that is not held, or that `n` holds. -/
theorem Agrees.alone (h : Agrees H X) {g m : Nat} (hown : ∀ v, H g m = some v → v.2 = some n) {k : Nat} {x : Context}
    {v : CircuitState × Option Nat} (hx : X k = some x) (hleg : LegHolds k x g m v) : k = n := by
  have hv := hown v ((h g m v).2 ⟨k, x, hx, hleg⟩)
  rw [hleg.owner, Option.some_inj] at hv
  exact hv

/-- One context changes: every place is held as before and its legs there are the same, or it is the context's own before and held
after just as its legs say. -/
theorem Agrees.write (h : Agrees H X) (hothers : ∀ k, k ≠ n → X' k = X k)
    (hplaces : ∀ g m, (H' g m = H g m ∧ ∀ v, (∃ x, X n = some x ∧ LegHolds n x g m v) ↔ ∃ y, X' n = some y ∧ LegHolds n y g m v) ∨
      ((∀ v, H g m = some v → v.2 = some n) ∧ ∀ v, H' g m = some v ↔ ∃ y, X' n = some y ∧ LegHolds n y g m v)) : Agrees H' X' := by
  intro g m v
  rcases hplaces g m with ⟨hsame, hlegs⟩ | ⟨hown, hlegs⟩
  · rw [hsame, h g m v]
    constructor
    · rintro ⟨k, x, hx, hleg⟩
      by_cases hk : k = n
      · subst hk
        obtain ⟨y, hy, hleg'⟩ := (hlegs v).1 ⟨x, hx, hleg⟩
        exact ⟨k, y, hy, hleg'⟩
      · exact ⟨k, x, (hothers k hk).trans hx, hleg⟩
    · rintro ⟨k, y, hy, hleg⟩
      by_cases hk : k = n
      · subst hk
        obtain ⟨x, hx, hleg'⟩ := (hlegs v).2 ⟨y, hy, hleg⟩
        exact ⟨k, x, hx, hleg'⟩
      · exact ⟨k, y, (hothers k hk).symm.trans hy, hleg⟩
  · rw [hlegs v]
    constructor
    · rintro ⟨y, hy, hleg⟩
      exact ⟨n, y, hy, hleg⟩
    · rintro ⟨k, y, hy, hleg⟩
      by_cases hk : k = n
      · subst hk
        exact ⟨y, hy, hleg⟩
      · exact absurd (h.alone hown ((hothers k hk).symm.trans hy) hleg) hk

theorem legHolds_of_some {o : Option Context} {x : Context} (ho : o = some x) {g m : Nat} {v : CircuitState × Option Nat} :
    (∃ y, o = some y ∧ LegHolds n y g m v) ↔ LegHolds n x g m v := by
  subst ho
  simp

theorem legHolds_of_none {o : Option Context} (ho : o = none) {g m : Nat} {v : CircuitState × Option Nat} :
    ¬ ∃ y, o = some y ∧ LegHolds n y g m v := by
  subst ho
  simp

end Changes

end Sys2Proof.Proofs.Agreement


/-! ## Circuits and contexts name each other (R6): what each change of a call does to the circuits held -/

namespace Sys2Proof.Proofs.Agreement

open Sys2Proof Sys2Proof.Machine Sys2Proof.Proofs.Circuits Sys2Proof.Proofs.Requests Sys2Proof.Proofs.ChargeRecords
open Sys2Proof.Proofs.TrunkGroups Sys2Proof.Proofs.Steps Sys2Proof.Proofs.Invariants Sys2Proof.Proofs.Releases

/-! ### The circuits held after a write -/

section Writes
variable {s : State} {g m : Nat} {r r' : Group} {c d : Circuit}

/-- After a write of one circuit its place says what it says, and every other what it said. -/
theorem heldAt_write (hr : s.group? g = some r) (hc : r.members[m]? = some c) (hr' : r'.members = r.members.set m d) (k l : Nat) :
    heldAt (s.setGroup g r') k l = if k = g ∧ l = m then held d else heldAt s k l := by
  by_cases hk : k = g
  · subst hk
    rw [heldAt_eq (setGroup_group?_same s k r' (lt_of_group? hr)), heldAt_eq hr, hr']
    by_cases hl : l = m
    · subst hl
      rw [if_pos ⟨rfl, rfl⟩, List.getElem?_set_self (List.getElem?_eq_some_iff.1 hc).1]
      rfl
    · rw [if_neg fun h => hl h.2, List.getElem?_set_ne (Ne.symm hl)]
  · rw [if_neg fun h => hk h.1, heldAt, heldAt, State.circuit?, State.circuit?, setGroup_group?_other s g k r' hk]

/-- A circuit that is not busy is not held. -/
theorem heldAt_of_idle (h : ∀ c, s.circuit? g m = some c → c.state.isBusy = false) : heldAt s g m = none := by
  rw [heldAt, Option.bind_eq_none_iff]
  exact fun c hc => held_of_idle (h c hc)

theorem heldAt_of_circuit (hr : s.group? g = some r) (hc : r.members[m]? = some c) : heldAt s g m = held c := by
  rw [heldAt_eq hr, hc]
  rfl

/-- After the end of a circuit its place is not held, and every other as it was. -/
theorem heldAt_ended {t : State}
    (hbusy : ∀ r c, s.group? g = some r → r.members[m]? = some c → c.state.isBusy = true →
      ∃ r' d, d.state.isBusy = false ∧ r'.members = r.members.set m d ∧ t.ctb = (s.setGroup g r').ctb)
    (hidle : (∀ c, s.circuit? g m = some c → c.state.isBusy = false) → t.ctb = s.ctb) (k l : Nat) :
    heldAt t k l = if k = g ∧ l = m then none else heldAt s k l := by
  rcases busy_or_not s g m with ⟨r, c, hr, hc, hcircuit⟩ | hnot
  · obtain ⟨r', d, hd, hmembers, hctb⟩ := hbusy r c hr hc hcircuit
    rw [heldAt_congr hctb, heldAt_write hr hc hmembers, held_of_idle hd]
  · rw [heldAt_congr (hidle hnot)]
    split_ifs with h
    · rw [h.1, h.2]
      exact heldAt_of_idle hnot
    · rfl

end Writes

section Ends
variable {ended : Group → Circuit → Circuit} {finish : Nat → Nat → State → State} (hends : EndsCircuit ended finish)
  (hended : ∀ r c, (ended r c).state.isBusy = false)
include hends hended

theorem heldAt_finish (s : State) (g m k l : Nat) : heldAt (finish g m s) k l = if k = g ∧ l = m then none else heldAt s k l := by
  refine heldAt_ended (fun r c hr hc hbusy => ?_) (fun hidle => by rw [hends.idle hidle]) k l
  refine ⟨drainedAs (r.setCircuit m (ended r c)), ended r c, hended r c, drainedAs_members _, ?_⟩
  rw [hends.busy hr hc hbusy, (Raises.drainEvents _ _).ctb]

/-- After the ends of a call's circuits the places of its legs are not held, and the others as they were. -/
theorem heldAt_finishLegs (x : Context) (s : State) (g m : Nat) :
    (LegAt x g m → heldAt (finishLegs finish x s) g m = none) ∧
      (¬ LegAt x g m → heldAt (finishLegs finish x s) g m = heldAt s g m) := by
  have hin := heldAt_finish hends hended s x.inLeg.group x.inLeg.member g m
  cases ho : x.outLeg with
  | none =>
    have hfinish : finishLegs finish x s = finish x.inLeg.group x.inLeg.member s := by rw [finishLegs, ho]
    rw [hfinish, hin]
    constructor
    · rintro (⟨rfl, rfl⟩ | ⟨o, ho', -⟩)
      · exact if_pos ⟨rfl, rfl⟩
      · cases ho.symm.trans ho'
    · exact fun hnot => if_neg fun h => hnot (.inl ⟨h.1.symm, h.2.symm⟩)
  | some o =>
    have hfinish : finishLegs finish x s = finish o.group o.member (finish x.inLeg.group x.inLeg.member s) := by rw [finishLegs, ho]
    rw [hfinish, heldAt_finish hends hended, hin]
    constructor
    · rintro (⟨rfl, rfl⟩ | ⟨o', ho', rfl, rfl⟩)
      · simp
      · cases ho.symm.trans ho'
        exact if_pos ⟨rfl, rfl⟩
    · intro hnot
      rw [if_neg fun h => hnot (.inr ⟨o, ho, h.1.symm, h.2.symm⟩), if_neg fun h => hnot (.inl ⟨h.1.symm, h.2.symm⟩)]

end Ends

theorem heldAt_ordinaryRelease (s : State) (g m k l : Nat) :
    heldAt (s.ordinaryRelease g m) k l = if k = g ∧ l = m then none else heldAt s k l :=
  heldAt_finish endsCircuit_ordinaryRelease releasedAs_not_busy s g m k l

theorem heldAt_faultRelease (s : State) (g m k l : Nat) :
    heldAt (s.faultRelease g m) k l = if k = g ∧ l = m then none else heldAt s k l := by
  refine heldAt_ended (fun r c hr hc hbusy => ?_) (fun hidle => by rw [faultRelease_eq_self hidle]) k l
  refine ⟨drainedAs (Calls.faultedAs m r), Circuit.blockedWith true, rfl, drainedAs_members _, ?_⟩
  rw [faultRelease_eq hr hc hbusy, (Raises.drainEvents _ _).ctb, ← raise_setGroup, raise_ctb]
  rfl

theorem heldAt_failCircuit (s : State) (f : FailCause) (g m k l : Nat) :
    heldAt (s.failCircuit f g m) k l = if k = g ∧ l = m then none else heldAt s k l := by
  cases f with
  | circuitFault => exact heldAt_faultRelease s g m k l
  | farCongestion | farRefused => exact heldAt_ordinaryRelease s g m k l

/-! ### The agreement after one context's change -/

section Changes
variable {H H' : Nat → Nat → Option (CircuitState × Option Nat)} {X X' : Nat → Option Context} {n g m : Nat} {x y : Context}

theorem legHolds_congr (hin : y.inLeg = x.inLeg) (hout : y.outLeg = x.outLeg) (hstate : x.outLeg ≠ none → (y.state = .pending ↔ x.state = .pending))
    (n g m : Nat) (v : CircuitState × Option Nat) : LegHolds n y g m v ↔ LegHolds n x g m v := by
  have hside : ∀ o, x.outLeg = some o → outState y.state = outState x.state := fun o ho => by
    unfold outState
    simp [hstate (by rw [ho]; simp)]
  unfold LegHolds
  rw [hin, hout]
  refine or_congr Iff.rfl (exists_congr fun o => and_congr_right fun ho => ?_)
  rw [hside o ho]

/-- A context changed beside its legs. -/
theorem Agrees.relabel (h : Agrees H X) (hx : X n = some x) (hy : X' n = some y) (hothers : ∀ k, k ≠ n → X' k = X k)
    (hlegs : ∀ g m v, LegHolds n y g m v ↔ LegHolds n x g m v) : Agrees H X' :=
  h.write hothers fun g m => .inl ⟨rfl, fun v => by rw [legHolds_of_some hx, legHolds_of_some hy, hlegs]⟩

/-- A FREE context is taken with an in-leg whose circuit was not held. -/
theorem Agrees.seize (h : Agrees H X) (hx : X n = none) (hy : X' n = some y) (hothers : ∀ k, k ≠ n → X' k = X k) (hnone : y.outLeg = none)
    (hidle : H y.inLeg.group y.inLeg.member = none)
    (hheld : ∀ k l, H' k l = if k = y.inLeg.group ∧ l = y.inLeg.member then some (.inBusy, some n) else H k l) : Agrees H' X' := by
  refine h.write hothers fun k l => ?_
  by_cases hplace : k = y.inLeg.group ∧ l = y.inLeg.member
  · obtain ⟨rfl, rfl⟩ := hplace
    refine .inr ⟨by simp [hidle], fun v => ?_⟩
    rw [hheld, legHolds_of_some hy]
    simp [LegHolds, hnone, eq_comm]
  · refine .inl ⟨by rw [hheld, if_neg hplace], fun v => iff_of_false (legHolds_of_none hx) ?_⟩
    rw [legHolds_of_some hy]
    rintro (⟨rfl, rfl, -⟩ | ⟨o, ho, -⟩)
    · exact hplace ⟨rfl, rfl⟩
    · cases hnone.symm.trans ho

/-- A context gets an out-leg on a circuit that was not held, or its out-leg's circuit goes with its new state. -/
theorem Agrees.setOut (h : Agrees H X) (hx : X n = some x) (hy : X' n = some y) (hothers : ∀ k, k ≠ n → X' k = X k) (hin : y.inLeg = x.inLeg)
    {o : OutLeg} (ho : y.outLeg = some o) (hbefore : ∀ o', x.outLeg = some o' → o'.group = o.group ∧ o'.member = o.member)
    (hown : ∀ v, H o.group o.member = some v → v.1 ≠ .inBusy ∧ v.2 = some n)
    (hheld : ∀ k l, H' k l = if k = o.group ∧ l = o.member then some (outState y.state, some n) else H k l) : Agrees H' X' := by
  have hapart : ¬ (x.inLeg.group = o.group ∧ x.inLeg.member = o.member) := fun ⟨hg, hm⟩ => by
    have hleg := (h x.inLeg.group x.inLeg.member (.inBusy, some n)).2 ⟨n, x, hx, .inl ⟨rfl, rfl, rfl⟩⟩
    rw [hg, hm] at hleg
    exact (hown _ hleg).1 rfl
  refine h.write hothers fun k l => ?_
  by_cases hplace : k = o.group ∧ l = o.member
  · obtain ⟨rfl, rfl⟩ := hplace
    refine .inr ⟨fun v hv => (hown v hv).2, fun v => ?_⟩
    rw [hheld, if_pos ⟨rfl, rfl⟩, legHolds_of_some hy]
    unfold LegHolds
    rw [hin, ho]
    constructor
    · rintro ⟨⟩
      exact .inr ⟨o, rfl, rfl, rfl, rfl⟩
    · rintro (⟨hg, hm, -⟩ | ⟨o', ho', -, -, rfl⟩)
      · exact absurd ⟨hg, hm⟩ hapart
      · rfl
  · refine .inl ⟨by rw [hheld, if_neg hplace], fun v => ?_⟩
    rw [legHolds_of_some hx, legHolds_of_some hy]
    unfold LegHolds
    rw [hin, ho]
    refine or_congr Iff.rfl (iff_of_false ?_ ?_)
    · rintro ⟨o', ho', rfl, rfl, -⟩
      exact hplace (hbefore o' ho')
    · rintro ⟨o', ho', rfl, rfl, -⟩
      cases ho'
      exact hplace ⟨rfl, rfl⟩

/-- A context loses its out-leg, whose circuit is released. -/
theorem Agrees.drop (h : Agrees H X) (hx : X n = some x) (hy : X' n = some y) (hothers : ∀ k, k ≠ n → X' k = X k) (hin : y.inLeg = x.inLeg)
    {o : OutLeg} (ho : x.outLeg = some o) (hnone : y.outLeg = none)
    (hheld : ∀ k l, H' k l = if k = o.group ∧ l = o.member then none else H k l) : Agrees H' X' := by
  have hbefore := (h o.group o.member (outState x.state, some n)).2 ⟨n, x, hx, .inr ⟨o, ho, rfl, rfl, rfl⟩⟩
  have hapart : ¬ (x.inLeg.group = o.group ∧ x.inLeg.member = o.member) := fun ⟨hg, hm⟩ => by
    have hleg := (h x.inLeg.group x.inLeg.member (.inBusy, some n)).2 ⟨n, x, hx, .inl ⟨rfl, rfl, rfl⟩⟩
    rw [hg, hm, hbefore] at hleg
    exact outState_ne _ (congrArg Prod.fst (Option.some_inj.1 hleg))
  refine h.write hothers fun k l => ?_
  by_cases hplace : k = o.group ∧ l = o.member
  · obtain ⟨rfl, rfl⟩ := hplace
    refine .inr ⟨fun v hv => ?_, fun v => iff_of_false (by simp [hheld]) ?_⟩
    · rw [hbefore] at hv
      cases hv
      rfl
    · rw [legHolds_of_some hy]
      rintro (⟨hg, hm, -⟩ | ⟨o', ho', -⟩)
      · exact hapart (hin ▸ ⟨hg, hm⟩)
      · cases hnone.symm.trans ho'
  · refine .inl ⟨by rw [hheld, if_neg hplace], fun v => ?_⟩
    rw [legHolds_of_some hx, legHolds_of_some hy]
    unfold LegHolds
    rw [hin, hnone, ho]
    refine or_congr Iff.rfl (iff_of_false ?_ ?_)
    · rintro ⟨o', ho', rfl, rfl, -⟩
      cases ho'
      exact hplace ⟨rfl, rfl⟩
    · rintro ⟨o', ho', -⟩
      cases ho'

/-- A context is freed, its legs' circuits released. -/
theorem Agrees.free (h : Agrees H X) (hx : X n = some x) (hy : X' n = none) (hothers : ∀ k, k ≠ n → X' k = X k)
    (hlegs : ∀ g m, LegAt x g m → H' g m = none) (hbeside : ∀ g m, ¬ LegAt x g m → H' g m = H g m) : Agrees H' X' := by
  refine h.write hothers fun k l => ?_
  by_cases hleg : LegAt x k l
  · obtain ⟨v, hv⟩ := legAt_holds hleg n
    have hbefore := (h k l v).2 ⟨n, x, hx, hv⟩
    refine .inr ⟨fun w hw => ?_, fun w => iff_of_false (by simp [hlegs k l hleg]) (legHolds_of_none hy)⟩
    rw [hbefore] at hw
    cases hw
    exact hv.owner
  · refine .inl ⟨hbeside k l hleg, fun v => iff_of_false ?_ (legHolds_of_none hy)⟩
    rw [legHolds_of_some hx]
    exact fun h => hleg h.legAt

end Changes

end Sys2Proof.Proofs.Agreement


/-! ## Circuits and contexts name each other after every step (R6) -/

namespace Sys2Proof.Proofs.Agreement

open Sys2Proof Sys2Proof.Machine Sys2Proof.Proofs.Circuits Sys2Proof.Proofs.Requests Sys2Proof.Proofs.ChargeRecords
open Sys2Proof.Proofs.TrunkGroups Sys2Proof.Proofs.Steps Sys2Proof.Proofs.Invariants Sys2Proof.Proofs.Releases
open Sys2Proof.Proofs.Selections Sys2Proof.Proofs.Calls
open Sys2Proof.Proofs.Timers (settleGuard_eq mapGroups_group?)

section Holders
variable {s : State} {g m n : Nat} {r : Group} {c : Circuit} {x : Context}

/-- An OUT_PENDING circuit is the out-leg of a context, which it names. -/
theorem Linked.pending_holder (hs : Linked s) (hc : s.circuit? g m = some c) (hstate : c.state = .outPending) :
    ∃ n x o, c.context = some n ∧ s.context? n = some x ∧ x.outLeg = some o ∧ o.group = g ∧ o.member = m := by
  have hheld : heldAt s g m = some (c.state, c.context) := heldAt_eq_some.2 ⟨c, hc, by rw [hstate]; rfl, rfl⟩
  obtain ⟨n, x, hx, ⟨-, -, hv⟩ | ⟨o, ho, hg, hm, hv⟩⟩ := (hs.agrees g m _).1 hheld
  · rw [hstate] at hv
    cases hv
  · exact ⟨n, x, o, congrArg Prod.snd hv, hx, ho, hg, hm⟩

/-- A context's out-leg is on a circuit that names the context. -/
theorem Linked.outLeg_held (hs : Linked s) (hx : s.context? n = some x) {o : OutLeg} (ho : x.outLeg = some o) :
    heldAt s o.group o.member = some (outState x.state, some n) :=
  (hs.agrees _ _ _).2 ⟨n, x, hx, .inr ⟨o, ho, rfl, rfl, rfl⟩⟩

end Holders

/-! ### Which contexts there are -/

section Bounds
variable {s t : State} {n : Nat} {y : Context}

/-- Every context was there before, and the sweep stands. -/
theorem Linked.bound_of (hs : Linked s) (hsweep : t.rse.sweep = s.rse.sweep) (hsub : ∀ k x, t.context? k = some x → ∃ y, s.context? k = some y)
    (k : Nat) (x : Context) (hx : t.context? k = some x) : k < 4096 ∧ ∀ w, t.rse.sweep = some w → w.next ≤ k := by
  obtain ⟨y, hy⟩ := hsub k x hx
  rw [hsweep]
  exact hs.bound k y hy

/-- One context is written that was there. -/
theorem Linked.bound_put (hs : Linked s) {x : Context} (hx : s.context? n = some x) (hothers : OtherContexts n s t)
    (hsweep : t.rse.sweep = s.rse.sweep) (k : Nat) (z : Context) (hz : t.context? k = some z) :
    k < 4096 ∧ ∀ w, t.rse.sweep = some w → w.next ≤ k := by
  refine hs.bound_of hsweep (fun j v hv => ?_) k z hz
  by_cases hj : j = n
  · exact ⟨x, hj ▸ hx⟩
  · exact ⟨v, (hothers j hj).symm.trans hv⟩

theorem setContext_others (s : State) (n : Nat) (y : Context) : OtherContexts n s (s.setContext n y) :=
  fun k hk => setContext_context?_other s n k y hk

end Bounds

/-! ### Each change of a call -/

section Moves
variable {s t : State} {n : Nat} {x y : Context}

theorem Linked.calm (hs : Linked s) (h : Calm s t) : Linked t := by
  have hcontext : t.context? = s.context? := funext (context?_congr h.contexts)
  have hheld : heldAt t = heldAt s := funext fun g => funext fun m => h.held g m
  exact ⟨by rw [hcontext, hheld]; exact hs.agrees, hs.bound_of h.sweep fun k x hx => ⟨x, by rwa [hcontext] at hx⟩⟩

/-- A group is defined or deleted where no circuit is held, and its new circuits are not held (R3, R5). -/
theorem groupDefine_calm (hs : s.groupsSound) (f : GroupFields) : Calm s (groupDefine f s).2 := by
  -- A BLOCKED group has no busy circuit.
  have hidle : ∀ r, s.group? f.group = some r → r.state = .blocked → ∀ m : Nat, r.members[m]?.bind held = none := fun r hr hstate m => by
    obtain ⟨-, hblocked, -⟩ := hs _ (group_mem hr)
    have hbusy : r.members.countP (fun c => c.state.isBusy) = 0 := (hblocked hstate).1
    rw [Option.bind_eq_none_iff]
    exact fun c hc => held_of_idle (Bool.eq_false_iff.2 (List.countP_eq_zero.1 hbusy c (List.mem_of_getElem? hc)))
  unfold groupDefine
  split
  · exact .refl
  split_ifs with hsize hrun hbusy hover
  · split
    · exact .refl
    rename_i r hr
    split_ifs with hstate
    · exact .refl
    refine ⟨rfl, rfl, rfl, le_refl _, fun g m => ?_⟩
    by_cases hg : g = f.group
    · subst hg
      rw [heldAt_eq hr, hidle r hr (not_not.1 hstate), heldAt_undefined]
      simp [State.group?]
    · unfold heldAt State.circuit? State.group?
      rw [State.deleteGroup_groups, tget_tdel_other _ _ _ hg]
  · exact .refl
  · exact .refl
  · exact .refl
  · refine ⟨rfl, rfl, rfl, le_refl _, fun g m => ?_⟩
    by_cases hg : g = f.group
    · subst hg
      have hbefore : heldAt s f.group m = none := by
        cases hr : s.group? f.group with
        | none => exact heldAt_undefined hr m
        | some r =>
          have hstate : r.state = .blocked := by simpa [hr, bne] using hbusy
          rw [heldAt_eq hr, hidle r hr hstate]
      rw [hbefore]
      refine heldAt_of_idle fun c hc => ?_
      obtain ⟨r, hr, hm⟩ := circuit?_eq_some_iff.1 hc
      have hnew : r = newGroup f := by
        unfold State.group? at hr
        split_ifs at hr
        simpa using hr.symm
      subst hnew
      rw [List.eq_of_mem_replicate (List.mem_of_getElem? hm)]
      rfl
    · unfold heldAt State.circuit?
      rw [setGroup_group?_other s f.group g _ hg]

/-- A FREE context is taken with an in-leg (R33). -/
theorem acceptSeizure_linked {g m : Nat} {r : Group} {c : Circuit} (q : BitVec 32) (p : Priority) (hs : Linked s) (hr : s.group? g = some r)
    (hc : r.members[m]? = some c) (hidle : c.state.isBusy = false) (hn : s.takeContext? = some n) (hsweep : s.rse.sweep = none) :
    Linked (s.acceptSeizure g m r c q p n) := by
  obtain ⟨hfree, -, hlt, -⟩ := lowestFree_spec _ _ _ hn
  have hothers : ∀ k, k ≠ n → (s.acceptSeizure g m r c q p n).context? k = s.context? k := fun k hk => by
    rw [acceptSeizure_eq hr]
    exact setContext_context?_other s n k _ hk
  refine ⟨hs.agrees.seize (n := n) (y := newcomer s g m r q p) hfree ?_ hothers rfl ?_ fun k l => ?_, fun k x hx => ?_⟩
  · rw [acceptSeizure_eq hr]
    exact setContext_context?_same s n _
  · exact (heldAt_of_circuit hr hc).trans (held_of_idle hidle)
  · rw [acceptSeizure_eq hr]
    exact heldAt_write (s := s) (r' := r.setCircuit m (c.incoming n)) (d := c.incoming n) hr hc rfl k l
  · have hsweep' : (s.acceptSeizure g m r c q p n).rse.sweep = none := by
      rw [acceptSeizure_eq hr]
      exact hsweep
    by_cases hk : k = n
    · subst hk
      rw [hsweep']
      exact ⟨by simpa [Config.contexts] using hlt, by simp⟩
    · rw [hothers k hk] at hx
      rw [hsweep']
      exact ⟨(hs.bound k x hx).1, by simp⟩

/-- A glare's circuit goes from the losing context's out-leg to a new context's in-leg (R25). -/
theorem yield_linked {g m : Nat} {r : Group} {c : Circuit} (q : BitVec 32) (p : Priority) (hs : Linked s) (hr : s.group? g = some r)
    (hc : r.members[m]? = some c) (hstate : c.state = .outPending) (hn : s.takeContext? = some n) (hsweep : s.rse.sweep = none) :
    ∃ x, (s.acceptSeizure g m r c q p n).context? (c.context.getD 0) = some x ∧
      Linked (dropOutLeg (c.context.getD 0) x (s.acceptSeizure g m r c q p n)) := by
  obtain ⟨hfree, -, hlt, -⟩ := lowestFree_spec _ _ _ hn
  obtain ⟨k, x, o, hk, hx, ho, rfl, rfl⟩ := hs.pending_holder (circuit?_eq_some_iff.2 ⟨r, hr, hc⟩) hstate
  have hne : k ≠ n := fun h => by
    subst h
    cases hfree.symm.trans hx
  have hcontexts : (s.acceptSeizure o.group o.member r c q p n).rse.contexts =
      tput s.rse.contexts n (newcomer s o.group o.member r q p) := by
    rw [acceptSeizure_eq hr]
    rfl
  have haccepted : ∀ j, (s.acceptSeizure o.group o.member r c q p n).context? j =
      (s.setContext n (newcomer s o.group o.member r q p)).context? j := context?_congr hcontexts
  have hx' : (s.acceptSeizure o.group o.member r c q p n).context? k = some x := by
    rw [haccepted, setContext_context?_other s n k _ hne, hx]
  have hloser : c.context.getD 0 = k := by rw [hk]; rfl
  rw [hloser]
  refine ⟨x, hx', ?_⟩
  have hothers : ∀ j, j ≠ k → (dropOutLeg k x (s.acceptSeizure o.group o.member r c q p n)).context? j =
      (s.acceptSeizure o.group o.member r c q p n).context? j := fun j hj =>
    (context?_congr (s := (s.acceptSeizure o.group o.member r c q p n).setContext k (dropped x)) (by rw [dropOutLeg, State.settleGuard_rse]) j).trans
      (setContext_context?_other _ k j _ hj)
  have hsweep' : (dropOutLeg k x (s.acceptSeizure o.group o.member r c q p n)).rse.sweep = none := by
    rw [dropOutLeg, State.settleGuard_rse, acceptSeizure_eq hr]
    exact hsweep
  -- The loser's leg goes first; its circuit is then as one that was not held.
  have hdropped : Agrees (fun i l => if i = o.group ∧ l = o.member then none else heldAt s i l)
      (Function.update s.context? k (some (dropped x))) :=
    hs.agrees.drop hx (Function.update_self ..) (fun j hj => Function.update_of_ne hj ..) rfl ho rfl fun _ _ => rfl
  refine ⟨hdropped.seize (n := n) (y := newcomer s o.group o.member r q p) ?_ ?_ (fun j hj => ?_) rfl ?_ fun i l => ?_, fun j y hy => ?_⟩
  · rw [Function.update_of_ne (Ne.symm hne)]
    exact hfree
  · rw [hothers n (Ne.symm hne), haccepted, setContext_context?_same]
  · by_cases hj' : j = k
    · subst hj'
      rw [dropOutLeg_context?_same, Function.update_self]
    · rw [hothers j hj', haccepted, setContext_context?_other s n j _ hj, Function.update_of_ne hj']
  · exact if_pos ⟨rfl, rfl⟩
  · have hctb : (dropOutLeg k x (s.acceptSeizure o.group o.member r c q p n)).ctb =
        (s.setGroup o.group (r.setCircuit o.member (c.incoming n))).ctb := by
      rw [dropOutLeg, settleGuard_eq, acceptSeizure_eq hr]
      rfl
    rw [heldAt_congr hctb, heldAt_write (r' := r.setCircuit o.member (c.incoming n)) (d := c.incoming n) hr hc rfl]
    show _ = if i = o.group ∧ l = o.member then _ else if i = o.group ∧ l = o.member then none else heldAt s i l
    split_ifs <;> rfl
  · rw [hsweep']
    by_cases hj : j = n
    · subst hj
      exact ⟨by simpa [Config.contexts] using hlt, by simp⟩
    · by_cases hj' : j = k
      · subst hj'
        exact ⟨(hs.bound j x hx).1, by simp⟩
      · rw [hothers j hj', haccepted, setContext_context?_other s n j _ hj] at hy
        exact ⟨(hs.bound j y hy).1, by simp⟩

end Moves

end Sys2Proof.Proofs.Agreement


/-! ## Circuits and contexts name each other after every step (R6): the other changes of a call, and the step -/

namespace Sys2Proof.Proofs.Agreement

open Sys2Proof Sys2Proof.Machine Sys2Proof.Proofs.Circuits Sys2Proof.Proofs.Requests Sys2Proof.Proofs.ChargeRecords
open Sys2Proof.Proofs.TrunkGroups Sys2Proof.Proofs.Steps Sys2Proof.Proofs.Invariants Sys2Proof.Proofs.Releases
open Sys2Proof.Proofs.Selections Sys2Proof.Proofs.Calls
open Sys2Proof.Proofs.Timers (settleGuard_eq mapGroups_group?)

section Moves
variable {s t : State} {n : Nat} {x y : Context}

theorem relabel_linked (hs : Linked s) (hx : s.context? n = some x) (hin : y.inLeg = x.inLeg) (hout : y.outLeg = x.outLeg)
    (hstate : x.outLeg ≠ none → (y.state = .pending ↔ x.state = .pending)) : Linked (s.setContext n y) := by
  refine ⟨?_, hs.bound_put hx (setContext_others s n y) rfl⟩
  have hheld : heldAt (s.setContext n y) = heldAt s := funext fun g => funext fun m => heldAt_congr rfl g m
  rw [hheld]
  exact hs.agrees.relabel hx (setContext_context?_same s n y) (setContext_others s n y) (legHolds_congr hin hout hstate n)

/-- A grant gives the context an out-leg on a circuit that was not held (R65). -/
theorem grant_linked {m idx : Nat} {r : Group} {c : Circuit} {e : RouteEntry} (hs : Linked s) (hx : s.context? n = some x)
    (hnone : x.outLeg = none) (hr : s.group? e.group = some r) (hc : r.members[m]? = some c) (hidle : c.state.isBusy = false) :
    Linked ((s.setGroup e.group (r.granted n m)).grant n idx e r m) := by
  have hchanged : ContextChanged n (grantedContext idx e r m (s.guards r.carrier)) (seizedFor n e r m s)
      ((s.setGroup e.group (r.granted n m)).grant n idx e r m) := by
    rw [State.grant, admitLeg_eq]
    exact changeContext_changed _ n _
  have hown := hchanged.own.trans (congrArg (Option.map _) (show (seizedFor n e r m s).context? n = some x from hx))
  have hidle' : heldAt s e.group m = none := (heldAt_of_circuit hr hc).trans (held_of_idle hidle)
  refine ⟨hs.agrees.setOut hx hown hchanged.others rfl (o := ⟨e.group, m, idx, e.band, r.carrier, s.guards r.carrier⟩) rfl
    (fun o ho => by cases hnone.symm.trans ho) (fun v hv => by cases hidle'.symm.trans hv) fun k l => ?_,
    hs.bound_put hx hchanged.others hchanged.sweep⟩
  rw [heldAt_congr hchanged.ctb]
  exact heldAt_write (s := s) (r' := r.granted n m) hr hc rfl k l

/-- CONFIRM takes the circuit to OUT_BUSY with its context (R36). -/
theorem confirm_linked {o : OutLeg} {r : Group} {c : Circuit} (hs : Linked s) (hx : s.context? n = some x) (hstate : x.state = .pending)
    (ho : x.outLeg = some o) (hr : s.group? o.group = some r) (hc : r.members[o.member]? = some c) :
    Linked ((s.setGroup o.group (r.setCircuit o.member c.confirmed)).setContext n { x with state := .established }) := by
  have hheld := hs.outLeg_held hx ho
  have hcircuit : c.state = .outPending ∧ c.context = some n := by
    obtain ⟨d, hd, -, hv⟩ := heldAt_eq_some.1 hheld
    cases (circuit?_eq hr ▸ hd).symm.trans hc
    rw [hstate] at hv
    exact ⟨(congrArg Prod.fst hv).symm, (congrArg Prod.snd hv).symm⟩
  obtain ⟨hpending, hcontext⟩ := hcircuit
  have hconfirmed : held c.confirmed = some (.outBusy, some n) := by
    simp [held, Circuit.confirmed, hpending, hcontext, CircuitState.isBusy]
  refine ⟨hs.agrees.setOut (y := { x with state := .established }) hx (setContext_context?_same _ n _) (fun k hk => setContext_context?_other _ n k _ hk)
    rfl ho (fun o' ho' => by cases ho.symm.trans ho'; exact ⟨rfl, rfl⟩) (fun v hv => ?_) fun k l => ?_,
    hs.bound_put hx (fun k hk => setContext_context?_other _ n k _ hk) rfl⟩
  · cases hheld.symm.trans hv
    exact ⟨outState_ne _, rfl⟩
  · refine (heldAt_write (s := s) (r' := r.setCircuit o.member c.confirmed) hr hc rfl k l).trans ?_
    rw [hconfirmed]
    rfl

/-- A FAIL releases the out-leg's circuit and takes the out-leg from the context (R37). -/
theorem fail_linked {o : OutLeg} (f : FailCause) (hs : Linked s) (hx : s.context? n = some x) (ho : x.outLeg = some o) :
    Linked (s.failAttempt f n o) := by
  have hcircuit := failCircuit_contexts s f o.group o.member
  have hkept : ((s.failCircuit f o.group o.member).settleGuard o.guarded).rse.contexts = s.rse.contexts := by
    rw [State.settleGuard_rse, hcircuit]
  have hchanged := changeContext_changed ((s.failCircuit f o.group o.member).settleGuard o.guarded) n (Context.halt f.halt (f.resume o.entry))
  have hothers : OtherContexts n s (s.failAttempt f n o) := fun k hk => (hchanged.others k hk).trans (context?_congr hkept k)
  have hsweep : (s.failAttempt f n o).rse.sweep = s.rse.sweep := by
    obtain ⟨-, -, -, -, hsweep, -⟩ := failAttempt_callOnly s f n o
    exact hsweep
  refine ⟨hs.agrees.drop hx (failAttempt_context? hx f o) hothers rfl ho rfl fun k l => ?_, hs.bound_put hx hothers hsweep⟩
  have hctb : (s.failAttempt f n o).ctb = (s.failCircuit f o.group o.member).ctb := by
    rw [State.failAttempt, hchanged.ctb, settleGuard_eq]
  rw [heldAt_congr hctb, heldAt_failCircuit]

/-- A seize timer's expiry releases its circuit and takes the out-leg from the context that the circuit names (R16, R40). -/
theorem timeout_linked {g m : Nat} {c : Circuit} (hs : Linked s) (hc : s.circuit? g m = some c) (hstate : c.state = .outPending) :
    ∃ n, c.context = some n ∧ Linked ((s.ordinaryRelease g m).timeoutContext n) := by
  obtain ⟨n, x, o, hn, hx, ho, rfl, rfl⟩ := hs.pending_holder hc hstate
  refine ⟨n, hn, ?_⟩
  have hrelease := ordinaryRelease_groupOnly o.group o.member s
  obtain ⟨-, ⟨-, -, hcontexts, hsweep⟩, -⟩ := id hrelease
  have hx' : (s.ordinaryRelease o.group o.member).context? n = some x := (context?_congr hcontexts n).trans hx
  have htimeout : (s.ordinaryRelease o.group o.member).timeoutContext n =
      ((s.ordinaryRelease o.group o.member).settleGuard o.guarded).setContext n (x.halt .timeout (some (o.entry + 1))) := by
    simp only [State.timeoutContext, hx', ho]
  rw [htimeout, settleGuard_eq]
  have hothers : OtherContexts n s (({ s.ordinaryRelease o.group o.member with
      sac := (s.ordinaryRelease o.group o.member).sac.settled o.guarded } : State).setContext n (x.halt .timeout (some (o.entry + 1)))) :=
    fun k hk => (setContext_context?_other _ n k _ hk).trans (context?_congr hcontexts k)
  refine ⟨hs.agrees.drop (y := x.halt .timeout (some (o.entry + 1))) hx (setContext_context?_same _ n _) hothers rfl ho rfl fun k l => ?_,
    hs.bound_put hx hothers hsweep⟩
  exact heldAt_ordinaryRelease s o.group o.member k l

/-- A call's circuits are released and its context is freed. -/
theorem free_agrees {ended : Group → Circuit → Circuit} {finish : Nat → Nat → State → State} (hends : EndsCircuit ended finish)
    (hended : ∀ r c, (ended r c).state.isBusy = false) (hs : Linked s) (hx : s.context? n = some x) {u : State} (hu : u.ctb = s.ctb)
    (hctb : t.ctb = (finishLegs finish x u).ctb) (hcontexts : t.rse.contexts = tdel s.rse.contexts n) : Agrees (heldAt t) t.context? := by
  have hcontext : ∀ k, t.context? k = (s.freeContext n).context? k := context?_congr hcontexts
  refine hs.agrees.free hx ((hcontext n).trans (freeContext_context?_same s n))
    (fun k hk => (hcontext k).trans (freeContext_context?_other s n k hk)) (fun g m hleg => ?_) fun g m hleg => ?_
  · rw [heldAt_congr hctb]
    exact (heldAt_finishLegs hends hended x u g m).1 hleg
  · rw [heldAt_congr hctb, (heldAt_finishLegs hends hended x u g m).2 hleg, heldAt_congr hu]

/-- A context that is there after one is freed was there before, and is another. -/
theorem context?_of_freed (hcontexts : t.rse.contexts = tdel s.rse.contexts n) {k : Nat} {z : Context} (hz : t.context? k = some z) :
    k ≠ n ∧ s.context? k = some z := by
  have hcontext : t.context? k = (s.freeContext n).context? k := context?_congr hcontexts k
  rw [hcontext] at hz
  by_cases hk : k = n
  · subst hk
    simp at hz
  · exact ⟨hk, (freeContext_context?_other s n k hk).symm.trans hz⟩

/-- After the sweep's completion no circuit is busy (R27). -/
theorem heldAt_restartValues (s : State) (g m : Nat) : heldAt s.restartValues g m = none := by
  refine heldAt_of_idle fun c hc => ?_
  obtain ⟨r, hr, hm⟩ := circuit?_eq_some_iff.1 hc
  have hswept : (s.mapGroups Group.swept).group? g = some r := hr
  rw [mapGroups_group?] at hswept
  obtain ⟨r', -, rfl⟩ := Option.map_eq_some_iff.1 hswept
  rw [Group.swept, List.getElem?_map] at hm
  obtain ⟨d, -, rfl⟩ := Option.map_eq_some_iff.1 hm
  exact swept_isBusy d

/-- Every change of a call keeps circuits and contexts in agreement. -/
theorem move_linked (hs : Linked s) (h : CallMove State.groupsSound s t) : Linked t := by
  cases h with
  | calm h => exact hs.calm h
  | define f hsound => exact hs.calm (groupDefine_calm hsound f)
  | relabel hx hin hout hstate => exact relabel_linked hs hx hin hout hstate
  | seize q p hr hc hidle hn _ hsweep => exact acceptSeizure_linked q p hs hr hc hidle hn hsweep
  | yield q p hr hc hstate hn _ hsweep hx =>
    obtain ⟨y, hy, hlinked⟩ := yield_linked q p hs hr hc hstate hn hsweep
    cases hx.symm.trans hy
    exact hlinked
  | yieldAlone q p hr hc hstate hn _ hsweep hx =>
    obtain ⟨y, hy, -⟩ := yield_linked q p hs hr hc hstate hn hsweep
    cases hx.symm.trans hy
  | grant idx hx hnone hr hc hidle => exact grant_linked hs hx hnone hr hc hidle
  | confirm hx hstate ho hr hc => exact confirm_linked hs hx hstate ho hr hc
  | fail f hx ho => exact fail_linked f hs hx ho
  | timeout hc hstate hn =>
    obtain ⟨k, hk, hlinked⟩ := timeout_linked hs hc hstate
    cases hn.symm.trans hk
    exact hlinked
  | timeoutAlone hc hstate hn =>
    obtain ⟨k, hk, -⟩ := timeout_linked hs hc hstate
    cases hn.symm.trans hk
  | @release n x a hx =>
    obtain ⟨⟨-, -, -, -, hsweep, -⟩, -, -, hcontexts, -⟩ := finishLegs_frame endsCircuit_ordinaryRelease x s
    obtain ⟨⟨-, -, -, -, hsweep', -⟩, hctb, -, hcontexts', -⟩ := endLegs_sacOnly (s.releaseLegs x) x a false
    have hfreed : (((s.releaseLegs x).endLegs x a false).2.freeContext n).rse.contexts = tdel s.rse.contexts n :=
      congrArg (tdel · n) (hcontexts'.trans hcontexts)
    exact ⟨free_agrees endsCircuit_ordinaryRelease releasedAs_not_busy hs hx rfl hctb hfreed,
      hs.bound_of (hsweep'.trans hsweep) fun k z hz => ⟨z, (context?_of_freed hfreed hz).2⟩⟩
  | @visit w x hw hx =>
    obtain ⟨-, hctb, -, hcontexts, -⟩ := endLegs_sacOnly s x w.instant true
    obtain ⟨-, -, -, hcontexts', -⟩ := finishLegs_frame endsCircuit_sweepCircuit x ((s.endLegs x w.instant true).2.freeContext w.next)
    have hfreed : ((s.visit w x).setSweep (some (w.counted x))).rse.contexts = tdel s.rse.contexts w.next :=
      hcontexts'.trans (congrArg (tdel · w.next) hcontexts)
    refine ⟨free_agrees (u := (s.endLegs x w.instant true).2.freeContext w.next) endsCircuit_sweepCircuit (fun _ _ => rfl) hs hx hctb rfl hfreed, fun k z hz => ?_⟩
    obtain ⟨hk, hz'⟩ := context?_of_freed hfreed hz
    obtain ⟨hlt, hsweep⟩ := hs.bound k z hz'
    have hnext := hsweep w hw
    refine ⟨hlt, fun w' hw' => ?_⟩
    have hcounted : w' = w.counted x := (Option.some_inj.1 hw').symm
    have hafter : (w.counted x).next = w.next + 1 := by
      unfold Sweep.counted
      split_ifs <;> rfl
    rw [hcounted, hafter]
    omega
  | @pass w hw hx =>
    refine ⟨hs.agrees, fun k z hz => ?_⟩
    obtain ⟨hlt, hsweep⟩ := hs.bound k z hz
    have hnext := hsweep w hw
    have hk : k ≠ w.next := fun h => by
      subst h
      cases hx.symm.trans hz
    refine ⟨hlt, fun w' hw' => ?_⟩
    cases hw'
    show w.next + 1 ≤ k
    omega
  | begin hw =>
    refine ⟨hs.agrees, fun k z hz => ⟨(hs.bound k z hz).1, fun w' hw' => ?_⟩⟩
    cases hw'
    omega
  | @complete w hw hall =>
    -- Every context was visited, so none is left.
    have hnone : ∀ k z, s.context? k ≠ some z := fun k z hz => by
      obtain ⟨hlt, hsweep⟩ := hs.bound k z hz
      have hnext := hsweep w hw
      exact hall (by rw [Config.contexts]; omega)
    refine ⟨fun g m v => iff_of_false (by simp [heldAt_restartValues]) ?_, fun k z hz => absurd hz (hnone k z)⟩
    rintro ⟨k, z, hz, -⟩
    exact hnone k z hz

end Moves

/-- Settles O15: each change of a call changes one context and the circuits of its legs together. -/
theorem stepKeepsCallsAgreeing : Obligations.StepKeepsCallsAgreeing := by
  intro s t hs hstep
  obtain ⟨hcanonical, hsound, hlinked, hshaped⟩ := callsAgree_iff.1 hs
  have hreset : ∀ l q, Linked { State.reset with lnk := l, pending := q } := fun l q => by
    obtain ⟨-, -, -, -, -, -, -, -, hreset, -⟩ := resetMeetsEveryInvariant
    obtain ⟨-, -, hlinked, -⟩ := callsAgree_iff.1 hreset
    exact hlinked.calm (.beside rfl rfl rfl rfl (le_refl _))
  obtain ⟨hlinked', hshaped'⟩ := step_keeps_calls (fun _ _ => move_linked) hreset hshaped hlinked (fun _ _ => hsound) hstep
  exact callsAgree_iff.2 ⟨stepKeepsTablesCanonical s t hcanonical hstep, stepKeepsGroupsSound s t hsound hstep, hlinked', hshaped'⟩

end Sys2Proof.Proofs.Agreement
